-- ==== Sys2Proof/Word.lean ====
section
/-! DEFINITION. The two widths of the core (spec/00_scope.md R8): 8-bit bytes and 16-bit words. -/
namespace Sys2Proof

/-- An 8-bit value: a general register, an opcode, an operand byte, a byte of memory (00_scope.md R8). -/
abbrev Byte := BitVec 8

/-- A 16-bit value: a pair, SP, PC, an address (00_scope.md R8). -/
abbrev Word := BitVec 16

end Sys2Proof
end

