-- ==== Sys2Proof/Config.lean ====
section
/-! DEFINITION. What an implementation fixes (the parameters of spec/00_scope.md R9) and the one free value: the byte that an
unconstrained memory oracle answers. The parameters' default values are in Machine/Boot.lean. -/
namespace Sys2Proof

/-- `ADD16_Z`: what ADD HL,rr does to Z (42_alu.md R152, 90_conflicts.md C5). -/
inductive Add16Z where
  /-- Z says whether the 16-bit result is zero -/
  | fromResult
  /-- Z keeps its old value -/
  | unaffected
  deriving DecidableEq, Repr

/-- `CARRY_MODE`: the carry-out of ADC and SBC (42_alu.md R153, 90_conflicts.md C6). -/
inductive CarryMode where
  /-- the true carry or borrow -/
  | exact
  /-- the comparison of the wrapped result with the old A -/
  | wrappedCompare
  deriving DecidableEq, Repr

/-- `MEM`: the memory collaborator's behaviour (20_memory.md R67). -/
inductive MemModel where
  /-- a read returns the last byte written to the address, or its initial content -/
  | flatRam
  /-- a read returns a byte of the oracle's choice -/
  | oracle
  deriving DecidableEq, Repr

/-- One event on the memory interface (00_scope.md R13, 20_memory.md R51): the call and what it carried. -/
inductive Access where
  /-- `read_byte(address)` answered `value` -/
  | readByte (address : Word) (value : Byte)
  /-- `read_word(address)` answered `value`: one call, the byte at `address` first (R53) -/
  | readWord (address : Word) (value : Word)
  /-- `write_byte(address, value)` -/
  | writeByte (address : Word) (value : Byte)
  deriving DecidableEq, Repr

/-- The parameters of 00_scope.md R9, but for BOOT_REGS, which is an argument of startup. -/
structure Params where
  /-- the opcodes of S_def that `POPULATED` leaves out: POPULATED is S_def without them (30_encoding.md R80) -/
  depopulated : List Byte
  /-- `AND_H`: what AND writes to the half-carry flag (42_alu.md R146) -/
  andH : Bool
  /-- `ADD16_Z` -/
  add16Z : Add16Z
  /-- `CARRY_MODE` -/
  carryMode : CarryMode
  /-- `MEM` -/
  memModel : MemModel
  /-- `CYCLES`: the opcodes whose nominal cost departs from the default table, with that cost (70_reset_and_hazards.md R290) -/
  cycleTable : List (Byte × Nat)
  /-- `CYCLE_WIDTH`: the width of the lifetime total, none where it is an unbounded number (92_eei_decisions.md D22) -/
  cycleWidth : Option Nat
  /-- `DOUBLE_SPEED`: no core rule reads it (10_state.md R21, 92_eei_decisions.md D30) -/
  doubleSpeed : Bool
  deriving DecidableEq, Repr

/-- `BOOT_REGS`: the post-boot register values (70_reset_and_hazards.md R281). -/
structure BootRegs where
  (a f b c d e h l : Byte)
  (sp pc : Word)
  deriving DecidableEq, Repr

/-- FREE VALUE. The byte that the unconstrained oracle answers to a read of an address, given the accesses made before it, newest
first (20_memory.md R52, R67; 93_implementation_defined.md U5). It has no value in the model: a claim holds whatever it is. -/
opaque Config.oracleByte : List Access → Word → Byte

end Sys2Proof
end

