-- ==== Sys2Proof/Machine/Boot.lean ====
section
/-! DEFINITION. The default values of the parameters (spec/00_scope.md R9): the DMG post-boot registers, the defaults of the flag
parameters, and the nominal cycle table. -/
namespace Sys2Proof.Machine

/-- The default of `BOOT_REGS`, the DMG post-boot state (10_state.md R37, 70_reset_and_hazards.md R281). PRESUMED by the spec itself
("from general knowledge, not in source"); log 6. -/
def dmgBootRegs : BootRegs where
  a := 0x01
  f := 0xB0
  b := 0x00
  c := 0x13
  d := 0x00
  e := 0xD8
  h := 0x01
  l := 0x4D
  sp := 0xFFFE
  pc := 0x0100

/-- The defaults of 00_scope.md R9: `MEM` is the external oracle. DESIGN CHOICE (log 27): `DOUBLE_SPEED` is false, where R9 gives
"any; no core rule reads it". -/
def defaultParams : Params where
  depopulated := []
  andH := true
  add16Z := .fromResult
  carryMode := .exact
  memModel := .oracle
  cycleTable := []
  cycleWidth := none
  doubleSpeed := false

/-- The parameters of the spec's worked vectors: the defaults, with flat RAM for `MEM` (00_scope.md R9, 20_memory.md R67). -/
def vectorParams : Params := { defaultParams with memModel := .flatRam }

/-- The nominal costs of the default `CYCLES`, one row for each high nibble, one column for each low nibble of the opcode
(70_reset_and_hazards.md R290; opcode_table.json's cycles_nominal). A JR cc slot holds the taken cost, which nothing reads (its
two costs are `jrTakenCost` and `jrNotTakenCost`); an unpopulated slot holds 0, which nothing reads. -/
def nominalCycleRows : List (List Nat) := [
  [1, 3, 2, 2, 1, 1, 2, 0, 0, 2, 2, 2, 1, 1, 2, 0],
  [0, 3, 2, 2, 1, 1, 2, 0, 3, 2, 2, 2, 1, 1, 2, 0],
  [3, 3, 2, 2, 1, 1, 2, 0, 3, 2, 2, 2, 1, 1, 2, 0],
  [3, 3, 2, 2, 3, 3, 3, 0, 3, 2, 2, 2, 1, 1, 2, 0],
  [1, 1, 1, 1, 1, 1, 2, 1, 1, 1, 1, 1, 1, 1, 2, 1],
  [1, 1, 1, 1, 1, 1, 2, 1, 1, 1, 1, 1, 1, 1, 2, 1],
  [1, 1, 1, 1, 1, 1, 2, 1, 1, 1, 1, 1, 1, 1, 2, 1],
  [2, 2, 2, 2, 2, 2, 0, 2, 1, 1, 1, 1, 1, 1, 2, 1],
  [1, 1, 1, 1, 1, 1, 2, 1, 1, 1, 1, 1, 1, 1, 2, 1],
  [1, 1, 1, 1, 1, 1, 2, 1, 1, 1, 1, 1, 1, 1, 2, 1],
  [1, 1, 1, 1, 1, 1, 2, 1, 1, 1, 1, 1, 1, 1, 2, 1],
  [1, 1, 1, 1, 1, 1, 2, 1, 1, 1, 1, 1, 1, 1, 2, 1],
  [0, 0, 0, 4, 0, 0, 2, 0, 0, 0, 0, 0, 0, 0, 2, 0],
  [0, 0, 0, 0, 0, 0, 2, 0, 0, 0, 0, 0, 0, 0, 2, 0],
  [3, 0, 0, 0, 0, 0, 2, 0, 0, 0, 4, 0, 0, 0, 2, 0],
  [3, 0, 0, 1, 0, 0, 2, 0, 0, 0, 4, 1, 0, 0, 2, 0]]

/-- The default nominal cost of an opcode (R290). -/
def defaultCycles (op : Byte) : Nat :=
  (nominalCycleRows.getD (op.toNat / 16) []).getD (op.toNat % 16) 0

/-- The nominal cost of JR cc,e when the branch is taken (43_jumps.md R192). -/
def jrTakenCost : Nat := 3

/-- The nominal cost of JR cc,e when the branch is not taken (R192). -/
def jrNotTakenCost : Nat := 2

/-- `CYCLES(op)`: the parameter's own entry for the opcode, else the default (R290). -/
def cyclesOf (p : Params) (op : Byte) : Nat :=
  (p.cycleTable.lookup op).getD (defaultCycles op)

/-- The lifetime total after an instruction of nominal cost `cost`: one more than the cost is added (R289), modulo the counter's
width where `CYCLE_WIDTH` gives it one (92_eei_decisions.md D22; log 10). -/
def addCycles (p : Params) (total cost : Nat) : Nat :=
  match p.cycleWidth with
  | none => total + cost + 1
  | some w => (total + cost + 1) % 2 ^ w

end Sys2Proof.Machine
end

