-- ==== Sys2Proof/Machine/State.lean ====
section
/-! DEFINITION. The state: the core's record (spec/10_state.md R20), the memory collaborator's contents and access history
(20_memory.md R67), and the parameters (00_scope.md R9). Plain data. -/
namespace Sys2Proof.Machine

/-- The sequencer's states (10_state.md R35). -/
inductive RunState where
  | running
  | faulted
  deriving DecidableEq, Repr

/-- The two faults, as the record the Faulted state holds (60_exceptions.md R252). Neither is ever an `Outcome.fault`: the step that
raises one answers the next state, whose `run` is `faulted` and whose `fault` is the record, as R255 says. -/
inductive Fault where
  /-- Raised by the step when the opcode at `pc` has no handler (R250). Safe: the spec describes it. -/
  | undefinedOpcode (pc : Word) (opcode : Byte)
  /-- Raised by the register file for an index that names no register (R251). Safe: no instruction can raise it. -/
  | invalidRegisterIndex (index : Nat)
  deriving DecidableEq, Repr

/-- Why there is no transition. -/
inductive Refusal where
  /-- An instruction without a meaning; no arm of exec uses it. Safe. -/
  | notModelled (mnemonic : String)
  /-- A step or a boundary action in the Faulted state, which has no successor (60_exceptions.md R256, 95_test_vectors.md section 2.9).
  Raised by `step` and `boundary`. Safe: the spec defines no transition. -/
  | noStepFromFaulted
  /-- A step or a boundary action in a state whose F has a non-zero low nibble (10_state.md R27, 93_implementation_defined.md U20).
  Raised by `step` and `boundary`. Safe: no such state is a state of the core. -/
  | flagsLowNibble
  /-- A startup whose BOOT_REGS.F has a non-zero low nibble (10_state.md R37, 93_implementation_defined.md U4). Raised by `startup`.
  Safe: the spec refuses it. -/
  | bootFlagsLowNibble
  deriving DecidableEq, Repr

/-- Flat RAM: the bytes that differ from what an unlisted address reads as, by rising address (20_memory.md R67). The canonical form is
`Memory.wf`. -/
abbrev Memory := List Host.Cell

/-- The state. -/
structure State where
  /-- the accumulator, high byte of AF (10_state.md R20) -/
  a : Byte
  /-- the flags: Z N H C in bits 7 to 4, bits 3 to 0 zero (R27) -/
  f : Byte
  /-- high byte of BC -/
  b : Byte
  /-- low byte of BC -/
  c : Byte
  /-- high byte of DE -/
  d : Byte
  /-- low byte of DE -/
  e : Byte
  /-- high byte of HL -/
  h : Byte
  /-- low byte of HL -/
  l : Byte
  /-- the stack pointer (R30) -/
  sp : Word
  /-- the program counter: the address of the next opcode byte (R31) -/
  pc : Word
  /-- the interrupt master enable (R32) -/
  ime : Bool
  /-- IE, the interrupt-enable mask (R34) -/
  ie : Byte
  /-- IF, the interrupt-request flags (R34) -/
  ifr : Byte
  /-- the sequencer's state (R35) -/
  run : RunState
  /-- the fault record, none while Running (R35) -/
  fault : Option Fault
  /-- the lifetime cycle total (R33) -/
  cyclesTotal : Nat
  /-- the collaborator's bytes (20_memory.md R67) -/
  mem : Memory
  /-- the collaborator's history of accesses, newest first (R67) -/
  history : List Access
  /-- the parameters (00_scope.md R9); nothing writes them -/
  params : Params
  deriving DecidableEq, Repr

/-- What one instruction, or one step, answers. -/
abbrev Out := Host.Outcome State Fault Refusal

/-- The state after the startup entry point with given post-boot registers, parameters and memory contents
(70_reset_and_hazards.md R280, 10_state.md R37). -/
def State.boot (r : BootRegs) (p : Params) (m : Memory) : State where
  a := r.a
  f := r.f
  b := r.b
  c := r.c
  d := r.d
  e := r.e
  h := r.h
  l := r.l
  sp := r.sp
  pc := r.pc
  ime := false
  ie := 0x00
  ifr := 0x00
  run := .running
  fault := none
  cyclesTotal := 0
  mem := m
  history := []
  params := p

/-- The machine right after reset: startup with the default parameters (10_state.md R37; `DOUBLE_SPEED` false is the model's choice,
log 27) and memory with nothing listed. -/
def State.reset : State := State.boot dmgBootRegs defaultParams []

end Sys2Proof.Machine
end

