-- ==== Sys2Proof/Syntax.lean ====
section
/-! DEFINITION. The instructions: one constructor for each mnemonic of spec/opcode_table.json, in the table's order, and the
functions that name a constructor by its fields (30_encoding.md R71). `at_x` in a name is the table's `(x)`, the byte at
address x; `hli` and `hld` are `HL+` and `HL-` (30_encoding.md R86). -/
namespace Sys2Proof

/-- The 8-bit registers that a register field names (30_encoding.md R72); field value 6, the (HL) operand, is none of them. -/
inductive Reg8 where
  | b | c | d | e | h | l | a
  deriving DecidableEq, Repr

/-- The 16-bit registers that the pair field pp names (30_encoding.md R73). -/
inductive Pair where
  | bc | de | hl | sp
  deriving DecidableEq, Repr

/-- The conditions of JR cc (30_encoding.md R74, 43_jumps.md R190). -/
inductive Cond where
  | nz | z | nc | c
  deriving DecidableEq, Repr

/-- The ALU operations of the field aaa (30_encoding.md R75). -/
inductive AluOp where
  | add | adc | sub | sbc | and | xor | or | cp
  deriving DecidableEq, Repr

/-- The instructions. An 8-bit operand is the byte at PC + 1, a 16-bit one the word at PC + 1 (30_encoding.md R76). -/
inductive Instr where
  /-- NOP (R230) -/
  | nop
  /-- LD BC,nn (R106) -/
  | ld_bc_nn (nn : Word)
  /-- LD (BC),A (R210) -/
  | ld_at_bc_a
  /-- INC BC (R125) -/
  | inc_bc
  /-- INC B (R121) -/
  | inc_b
  /-- DEC B (R123) -/
  | dec_b
  /-- LD B,n (R104) -/
  | ld_b_n (n : Byte)
  /-- ADD HL,BC (R184) -/
  | add_hl_bc
  /-- LD A,(BC) (R214) -/
  | ld_a_at_bc
  /-- DEC BC (R126) -/
  | dec_bc
  /-- INC C (R121) -/
  | inc_c
  /-- DEC C (R123) -/
  | dec_c
  /-- LD C,n (R104) -/
  | ld_c_n (n : Byte)
  /-- LD DE,nn (R106) -/
  | ld_de_nn (nn : Word)
  /-- LD (DE),A (R211) -/
  | ld_at_de_a
  /-- INC DE (R125) -/
  | inc_de
  /-- INC D (R121) -/
  | inc_d
  /-- DEC D (R123) -/
  | dec_d
  /-- LD D,n (R104) -/
  | ld_d_n (n : Byte)
  /-- JR e (R191) -/
  | jr_e (e : Byte)
  /-- ADD HL,DE (R184) -/
  | add_hl_de
  /-- LD A,(DE) (R215) -/
  | ld_a_at_de
  /-- DEC DE (R126) -/
  | dec_de
  /-- INC E (R121) -/
  | inc_e
  /-- DEC E (R123) -/
  | dec_e
  /-- LD E,n (R104) -/
  | ld_e_n (n : Byte)
  /-- JR NZ,e (R192) -/
  | jr_nz_e (e : Byte)
  /-- LD HL,nn (R106) -/
  | ld_hl_nn (nn : Word)
  /-- LD (HL+),A (R212) -/
  | ld_at_hli_a
  /-- INC HL (R125) -/
  | inc_hl
  /-- INC H (R121) -/
  | inc_h
  /-- DEC H (R123) -/
  | dec_h
  /-- LD H,n (R104) -/
  | ld_h_n (n : Byte)
  /-- JR Z,e (R192) -/
  | jr_z_e (e : Byte)
  /-- ADD HL,HL (R184) -/
  | add_hl_hl
  /-- LD A,(HL+) (R216) -/
  | ld_a_at_hli
  /-- DEC HL (R126) -/
  | dec_hl
  /-- INC L (R121) -/
  | inc_l
  /-- DEC L (R123) -/
  | dec_l
  /-- LD L,n (R104) -/
  | ld_l_n (n : Byte)
  /-- JR NC,e (R192) -/
  | jr_nc_e (e : Byte)
  /-- LD SP,nn (R106) -/
  | ld_sp_nn (nn : Word)
  /-- LD (HL-),A (R213) -/
  | ld_at_hld_a
  /-- INC SP (R125) -/
  | inc_sp
  /-- INC (HL) (R122) -/
  | inc_at_hl
  /-- DEC (HL) (R124) -/
  | dec_at_hl
  /-- LD (HL),n (R105) -/
  | ld_at_hl_n (n : Byte)
  /-- JR C,e (R192) -/
  | jr_c_e (e : Byte)
  /-- ADD HL,SP (R184) -/
  | add_hl_sp
  /-- LD A,(HL-) (R217) -/
  | ld_a_at_hld
  /-- DEC SP (R126) -/
  | dec_sp
  /-- INC A (R121) -/
  | inc_a
  /-- DEC A (R123) -/
  | dec_a
  /-- LD A,n (R104) -/
  | ld_a_n (n : Byte)
  /-- LD B,B (R101) -/
  | ld_b_b
  /-- LD B,C (R101) -/
  | ld_b_c
  /-- LD B,D (R101) -/
  | ld_b_d
  /-- LD B,E (R101) -/
  | ld_b_e
  /-- LD B,H (R101) -/
  | ld_b_h
  /-- LD B,L (R101) -/
  | ld_b_l
  /-- LD B,(HL) (R102) -/
  | ld_b_at_hl
  /-- LD B,A (R101) -/
  | ld_b_a
  /-- LD C,B (R101) -/
  | ld_c_b
  /-- LD C,C (R101) -/
  | ld_c_c
  /-- LD C,D (R101) -/
  | ld_c_d
  /-- LD C,E (R101) -/
  | ld_c_e
  /-- LD C,H (R101) -/
  | ld_c_h
  /-- LD C,L (R101) -/
  | ld_c_l
  /-- LD C,(HL) (R102) -/
  | ld_c_at_hl
  /-- LD C,A (R101) -/
  | ld_c_a
  /-- LD D,B (R101) -/
  | ld_d_b
  /-- LD D,C (R101) -/
  | ld_d_c
  /-- LD D,D (R101) -/
  | ld_d_d
  /-- LD D,E (R101) -/
  | ld_d_e
  /-- LD D,H (R101) -/
  | ld_d_h
  /-- LD D,L (R101) -/
  | ld_d_l
  /-- LD D,(HL) (R102) -/
  | ld_d_at_hl
  /-- LD D,A (R101) -/
  | ld_d_a
  /-- LD E,B (R101) -/
  | ld_e_b
  /-- LD E,C (R101) -/
  | ld_e_c
  /-- LD E,D (R101) -/
  | ld_e_d
  /-- LD E,E (R101) -/
  | ld_e_e
  /-- LD E,H (R101) -/
  | ld_e_h
  /-- LD E,L (R101) -/
  | ld_e_l
  /-- LD E,(HL) (R102) -/
  | ld_e_at_hl
  /-- LD E,A (R101) -/
  | ld_e_a
  /-- LD H,B (R101) -/
  | ld_h_b
  /-- LD H,C (R101) -/
  | ld_h_c
  /-- LD H,D (R101) -/
  | ld_h_d
  /-- LD H,E (R101) -/
  | ld_h_e
  /-- LD H,H (R101) -/
  | ld_h_h
  /-- LD H,L (R101) -/
  | ld_h_l
  /-- LD H,(HL) (R102) -/
  | ld_h_at_hl
  /-- LD H,A (R101) -/
  | ld_h_a
  /-- LD L,B (R101) -/
  | ld_l_b
  /-- LD L,C (R101) -/
  | ld_l_c
  /-- LD L,D (R101) -/
  | ld_l_d
  /-- LD L,E (R101) -/
  | ld_l_e
  /-- LD L,H (R101) -/
  | ld_l_h
  /-- LD L,L (R101) -/
  | ld_l_l
  /-- LD L,(HL) (R102) -/
  | ld_l_at_hl
  /-- LD L,A (R101) -/
  | ld_l_a
  /-- LD (HL),B (R103) -/
  | ld_at_hl_b
  /-- LD (HL),C (R103) -/
  | ld_at_hl_c
  /-- LD (HL),D (R103) -/
  | ld_at_hl_d
  /-- LD (HL),E (R103) -/
  | ld_at_hl_e
  /-- LD (HL),H (R103) -/
  | ld_at_hl_h
  /-- LD (HL),L (R103) -/
  | ld_at_hl_l
  /-- LD (HL),A (R103) -/
  | ld_at_hl_a
  /-- LD A,B (R101) -/
  | ld_a_b
  /-- LD A,C (R101) -/
  | ld_a_c
  /-- LD A,D (R101) -/
  | ld_a_d
  /-- LD A,E (R101) -/
  | ld_a_e
  /-- LD A,H (R101) -/
  | ld_a_h
  /-- LD A,L (R101) -/
  | ld_a_l
  /-- LD A,(HL) (R102) -/
  | ld_a_at_hl
  /-- LD A,A (R101) -/
  | ld_a_a
  /-- ADD A,B (R160) -/
  | add_a_b
  /-- ADD A,C (R160) -/
  | add_a_c
  /-- ADD A,D (R160) -/
  | add_a_d
  /-- ADD A,E (R160) -/
  | add_a_e
  /-- ADD A,H (R160) -/
  | add_a_h
  /-- ADD A,L (R160) -/
  | add_a_l
  /-- ADD A,(HL) (R161) -/
  | add_a_at_hl
  /-- ADD A,A (R160) -/
  | add_a_a
  /-- ADC A,B (R163) -/
  | adc_a_b
  /-- ADC A,C (R163) -/
  | adc_a_c
  /-- ADC A,D (R163) -/
  | adc_a_d
  /-- ADC A,E (R163) -/
  | adc_a_e
  /-- ADC A,H (R163) -/
  | adc_a_h
  /-- ADC A,L (R163) -/
  | adc_a_l
  /-- ADC A,(HL) (R164) -/
  | adc_a_at_hl
  /-- ADC A,A (R163) -/
  | adc_a_a
  /-- SUB B (R166) -/
  | sub_b
  /-- SUB C (R166) -/
  | sub_c
  /-- SUB D (R166) -/
  | sub_d
  /-- SUB E (R166) -/
  | sub_e
  /-- SUB H (R166) -/
  | sub_h
  /-- SUB L (R166) -/
  | sub_l
  /-- SUB (HL) (R167) -/
  | sub_at_hl
  /-- SUB A (R166) -/
  | sub_a
  /-- SBC A,B (R169) -/
  | sbc_a_b
  /-- SBC A,C (R169) -/
  | sbc_a_c
  /-- SBC A,D (R169) -/
  | sbc_a_d
  /-- SBC A,E (R169) -/
  | sbc_a_e
  /-- SBC A,H (R169) -/
  | sbc_a_h
  /-- SBC A,L (R169) -/
  | sbc_a_l
  /-- SBC A,(HL) (R170) -/
  | sbc_a_at_hl
  /-- SBC A,A (R169) -/
  | sbc_a_a
  /-- AND B (R172) -/
  | and_b
  /-- AND C (R172) -/
  | and_c
  /-- AND D (R172) -/
  | and_d
  /-- AND E (R172) -/
  | and_e
  /-- AND H (R172) -/
  | and_h
  /-- AND L (R172) -/
  | and_l
  /-- AND (HL) (R173) -/
  | and_at_hl
  /-- AND A (R172) -/
  | and_a
  /-- XOR B (R175) -/
  | xor_b
  /-- XOR C (R175) -/
  | xor_c
  /-- XOR D (R175) -/
  | xor_d
  /-- XOR E (R175) -/
  | xor_e
  /-- XOR H (R175) -/
  | xor_h
  /-- XOR L (R175) -/
  | xor_l
  /-- XOR (HL) (R176) -/
  | xor_at_hl
  /-- XOR A (R175) -/
  | xor_a
  /-- OR B (R178) -/
  | or_b
  /-- OR C (R178) -/
  | or_c
  /-- OR D (R178) -/
  | or_d
  /-- OR E (R178) -/
  | or_e
  /-- OR H (R178) -/
  | or_h
  /-- OR L (R178) -/
  | or_l
  /-- OR (HL) (R179) -/
  | or_at_hl
  /-- OR A (R178) -/
  | or_a
  /-- CP B (R181) -/
  | cp_b
  /-- CP C (R181) -/
  | cp_c
  /-- CP D (R181) -/
  | cp_d
  /-- CP E (R181) -/
  | cp_e
  /-- CP H (R181) -/
  | cp_h
  /-- CP L (R181) -/
  | cp_l
  /-- CP (HL) (R182) -/
  | cp_at_hl
  /-- CP A (R181) -/
  | cp_a
  /-- JP nn (R193) -/
  | jp_nn (nn : Word)
  /-- ADD A,n (R162) -/
  | add_a_n (n : Byte)
  /-- ADC A,n (R165) -/
  | adc_a_n (n : Byte)
  /-- SUB n (R168) -/
  | sub_n (n : Byte)
  /-- SBC A,n (R171) -/
  | sbc_a_n (n : Byte)
  /-- LDH (n),A (R218) -/
  | ldh_at_n_a (n : Byte)
  /-- AND n (R174) -/
  | and_n (n : Byte)
  /-- LD (nn),A (R220) -/
  | ld_at_nn_a (nn : Word)
  /-- XOR n (R177) -/
  | xor_n (n : Byte)
  /-- LDH A,(n) (R219) -/
  | ldh_a_at_n (n : Byte)
  /-- DI (R231) -/
  | di
  /-- OR n (R180) -/
  | or_n (n : Byte)
  /-- LD A,(nn) (R221) -/
  | ld_a_at_nn (nn : Word)
  /-- EI (R232) -/
  | ei
  /-- CP n (R183) -/
  | cp_n (n : Byte)
  /-- A slot with no handler: an opcode outside S_def, or one left out of POPULATED (30_encoding.md R80, R81; R250) -/
  | undefined (opcode : Byte)
  deriving DecidableEq, Repr

/-- LD r,r' by its two registers (40_register_loads.md R101). -/
def Instr.ld : Reg8 → Reg8 → Instr
  | .b, .b => .ld_b_b
  | .b, .c => .ld_b_c
  | .b, .d => .ld_b_d
  | .b, .e => .ld_b_e
  | .b, .h => .ld_b_h
  | .b, .l => .ld_b_l
  | .b, .a => .ld_b_a
  | .c, .b => .ld_c_b
  | .c, .c => .ld_c_c
  | .c, .d => .ld_c_d
  | .c, .e => .ld_c_e
  | .c, .h => .ld_c_h
  | .c, .l => .ld_c_l
  | .c, .a => .ld_c_a
  | .d, .b => .ld_d_b
  | .d, .c => .ld_d_c
  | .d, .d => .ld_d_d
  | .d, .e => .ld_d_e
  | .d, .h => .ld_d_h
  | .d, .l => .ld_d_l
  | .d, .a => .ld_d_a
  | .e, .b => .ld_e_b
  | .e, .c => .ld_e_c
  | .e, .d => .ld_e_d
  | .e, .e => .ld_e_e
  | .e, .h => .ld_e_h
  | .e, .l => .ld_e_l
  | .e, .a => .ld_e_a
  | .h, .b => .ld_h_b
  | .h, .c => .ld_h_c
  | .h, .d => .ld_h_d
  | .h, .e => .ld_h_e
  | .h, .h => .ld_h_h
  | .h, .l => .ld_h_l
  | .h, .a => .ld_h_a
  | .l, .b => .ld_l_b
  | .l, .c => .ld_l_c
  | .l, .d => .ld_l_d
  | .l, .e => .ld_l_e
  | .l, .h => .ld_l_h
  | .l, .l => .ld_l_l
  | .l, .a => .ld_l_a
  | .a, .b => .ld_a_b
  | .a, .c => .ld_a_c
  | .a, .d => .ld_a_d
  | .a, .e => .ld_a_e
  | .a, .h => .ld_a_h
  | .a, .l => .ld_a_l
  | .a, .a => .ld_a_a

/-- LD r,(HL) by its register (R102). -/
def Instr.ldFromHL : Reg8 → Instr
  | .b => .ld_b_at_hl
  | .c => .ld_c_at_hl
  | .d => .ld_d_at_hl
  | .e => .ld_e_at_hl
  | .h => .ld_h_at_hl
  | .l => .ld_l_at_hl
  | .a => .ld_a_at_hl

/-- LD (HL),r by its register (R103). -/
def Instr.ldToHL : Reg8 → Instr
  | .b => .ld_at_hl_b
  | .c => .ld_at_hl_c
  | .d => .ld_at_hl_d
  | .e => .ld_at_hl_e
  | .h => .ld_at_hl_h
  | .l => .ld_at_hl_l
  | .a => .ld_at_hl_a

/-- LD r,n by its register (R104). -/
def Instr.ldImm : Reg8 → Byte → Instr
  | .b, n => .ld_b_n n
  | .c, n => .ld_c_n n
  | .d, n => .ld_d_n n
  | .e, n => .ld_e_n n
  | .h, n => .ld_h_n n
  | .l, n => .ld_l_n n
  | .a, n => .ld_a_n n

/-- LD rr,nn by its pair (R106). -/
def Instr.ldPair : Pair → Word → Instr
  | .bc, nn => .ld_bc_nn nn
  | .de, nn => .ld_de_nn nn
  | .hl, nn => .ld_hl_nn nn
  | .sp, nn => .ld_sp_nn nn

/-- INC r by its register (41_inc_dec.md R121). -/
def Instr.inc : Reg8 → Instr
  | .b => .inc_b
  | .c => .inc_c
  | .d => .inc_d
  | .e => .inc_e
  | .h => .inc_h
  | .l => .inc_l
  | .a => .inc_a

/-- DEC r by its register (R123). -/
def Instr.dec : Reg8 → Instr
  | .b => .dec_b
  | .c => .dec_c
  | .d => .dec_d
  | .e => .dec_e
  | .h => .dec_h
  | .l => .dec_l
  | .a => .dec_a

/-- INC rr by its pair (R125). -/
def Instr.incPair : Pair → Instr
  | .bc => .inc_bc
  | .de => .inc_de
  | .hl => .inc_hl
  | .sp => .inc_sp

/-- DEC rr by its pair (R126). -/
def Instr.decPair : Pair → Instr
  | .bc => .dec_bc
  | .de => .dec_de
  | .hl => .dec_hl
  | .sp => .dec_sp

/-- An 8-bit ALU instruction on a register, by operation and register (42_alu.md R160-R183). -/
def Instr.alu : AluOp → Reg8 → Instr
  | .add, .b => .add_a_b
  | .add, .c => .add_a_c
  | .add, .d => .add_a_d
  | .add, .e => .add_a_e
  | .add, .h => .add_a_h
  | .add, .l => .add_a_l
  | .add, .a => .add_a_a
  | .adc, .b => .adc_a_b
  | .adc, .c => .adc_a_c
  | .adc, .d => .adc_a_d
  | .adc, .e => .adc_a_e
  | .adc, .h => .adc_a_h
  | .adc, .l => .adc_a_l
  | .adc, .a => .adc_a_a
  | .sub, .b => .sub_b
  | .sub, .c => .sub_c
  | .sub, .d => .sub_d
  | .sub, .e => .sub_e
  | .sub, .h => .sub_h
  | .sub, .l => .sub_l
  | .sub, .a => .sub_a
  | .sbc, .b => .sbc_a_b
  | .sbc, .c => .sbc_a_c
  | .sbc, .d => .sbc_a_d
  | .sbc, .e => .sbc_a_e
  | .sbc, .h => .sbc_a_h
  | .sbc, .l => .sbc_a_l
  | .sbc, .a => .sbc_a_a
  | .and, .b => .and_b
  | .and, .c => .and_c
  | .and, .d => .and_d
  | .and, .e => .and_e
  | .and, .h => .and_h
  | .and, .l => .and_l
  | .and, .a => .and_a
  | .xor, .b => .xor_b
  | .xor, .c => .xor_c
  | .xor, .d => .xor_d
  | .xor, .e => .xor_e
  | .xor, .h => .xor_h
  | .xor, .l => .xor_l
  | .xor, .a => .xor_a
  | .or, .b => .or_b
  | .or, .c => .or_c
  | .or, .d => .or_d
  | .or, .e => .or_e
  | .or, .h => .or_h
  | .or, .l => .or_l
  | .or, .a => .or_a
  | .cp, .b => .cp_b
  | .cp, .c => .cp_c
  | .cp, .d => .cp_d
  | .cp, .e => .cp_e
  | .cp, .h => .cp_h
  | .cp, .l => .cp_l
  | .cp, .a => .cp_a

/-- An 8-bit ALU instruction on the byte at HL, by operation. -/
def Instr.aluAtHL : AluOp → Instr
  | .add => .add_a_at_hl
  | .adc => .adc_a_at_hl
  | .sub => .sub_at_hl
  | .sbc => .sbc_a_at_hl
  | .and => .and_at_hl
  | .xor => .xor_at_hl
  | .or => .or_at_hl
  | .cp => .cp_at_hl

/-- An 8-bit ALU instruction on an immediate, by operation. -/
def Instr.aluImm : AluOp → Byte → Instr
  | .add, n => .add_a_n n
  | .adc, n => .adc_a_n n
  | .sub, n => .sub_n n
  | .sbc, n => .sbc_a_n n
  | .and, n => .and_n n
  | .xor, n => .xor_n n
  | .or, n => .or_n n
  | .cp, n => .cp_n n

/-- ADD HL,rr by its pair (R184). -/
def Instr.addHL : Pair → Instr
  | .bc => .add_hl_bc
  | .de => .add_hl_de
  | .hl => .add_hl_hl
  | .sp => .add_hl_sp

/-- JR cc,e by its condition (43_jumps.md R192). -/
def Instr.jr : Cond → Byte → Instr
  | .nz, e => .jr_nz_e e
  | .z, e => .jr_z_e e
  | .nc, e => .jr_nc_e e
  | .c, e => .jr_c_e e

end Sys2Proof
end

