-- ==== Sys2Proof/Machine/Flags.lean ====
section
/-! DEFINITION. The flag algebra (spec/42_alu.md R141 to R153): one pure function for each class, which returns the result and the
four flags. Operands become natural numbers, sums and comparisons are exact, and the result is truncated (00_scope.md R11). -/
namespace Sys2Proof.Machine

/-- The four flags (10_state.md R27). -/
structure Flags where
  /-- Z, zero -/
  z : Bool
  /-- N, subtract -/
  n : Bool
  /-- Hf, half-carry -/
  h : Bool
  /-- Cy, carry -/
  c : Bool
  deriving DecidableEq, Repr

/-- `Z<<7 | N<<6 | Hf<<5 | Cy<<4` (10_state.md R28): the byte that every write to F writes. -/
def packFlags (x : Flags) : Byte :=
  BitVec.ofBool x.z ++ BitVec.ofBool x.n ++ BitVec.ofBool x.h ++ BitVec.ofBool x.c ++ 0#4

/-- Z, bit 7 of F. -/
def flagZ (f : Byte) : Bool := f.getLsbD 7
/-- N, bit 6 of F. -/
def flagN (f : Byte) : Bool := f.getLsbD 6
/-- Hf, bit 5 of F. -/
def flagH (f : Byte) : Bool := f.getLsbD 5
/-- Cy, bit 4 of F. -/
def flagC (f : Byte) : Bool := f.getLsbD 4

/-- The low nibble of F is zero (10_state.md R27). -/
def flagsOk (f : Byte) : Bool := f.toNat % 16 == 0

/-- The low nibble of a byte, v[3:0]. -/
def lowNibble (v : Byte) : Nat := v.toNat % 16

/-- Class ADD (R142). -/
def flagADD (a b : Byte) : Byte × Flags :=
  let t := a.toNat + b.toNat
  let res := BitVec.ofNat 8 t
  (res, { z := res == 0, n := false, h := decide (lowNibble a + lowNibble b > 0xF), c := decide (t > 0xFF) })

/-- Class ADC (R143, R153): the carry-in is `cin`. -/
def flagADC (mode : CarryMode) (a b : Byte) (cin : Bool) : Byte × Flags :=
  let t := a.toNat + b.toNat + cin.toNat
  let res := BitVec.ofNat 8 t
  let cy := match mode with
    | .exact => decide (t > 0xFF)
    | .wrappedCompare => decide (res.toNat < a.toNat)
  (res, { z := res == 0, n := false, h := decide (lowNibble a + lowNibble b + cin.toNat > 0xF), c := cy })

/-- Class SUB (R144). -/
def flagSUB (a b : Byte) : Byte × Flags :=
  let res := a - b
  (res, { z := res == 0, n := true, h := decide (lowNibble a < lowNibble b), c := decide (a.toNat < b.toNat) })

/-- Class SBC (R145, R153): the incoming borrow is `cin`. -/
def flagSBC (mode : CarryMode) (a b : Byte) (cin : Bool) : Byte × Flags :=
  let res := a - b - BitVec.ofNat 8 cin.toNat
  let cy := match mode with
    | .exact => decide (a.toNat < b.toNat + cin.toNat)
    | .wrappedCompare => decide (res.toNat > a.toNat)
  (res, { z := res == 0, n := true, h := decide (lowNibble a < lowNibble b + cin.toNat), c := cy })

/-- Class AND (R146); `andH` is the parameter `AND_H`. -/
def flagAND (andH : Bool) (a b : Byte) : Byte × Flags :=
  let res := a &&& b
  (res, { z := res == 0, n := false, h := andH, c := false })

/-- Class XOR (R147). -/
def flagXOR (a b : Byte) : Byte × Flags :=
  let res := a ^^^ b
  (res, { z := res == 0, n := false, h := false, c := false })

/-- Class OR (R148). -/
def flagOR (a b : Byte) : Byte × Flags :=
  let res := a ||| b
  (res, { z := res == 0, n := false, h := false, c := false })

/-- Class CP (R149): the result and flags of SUB; the caller discards the result. -/
def flagCP (a b : Byte) : Byte × Flags := flagSUB a b

/-- Class INC (R150); `cy` is the old carry, which the caller keeps. -/
def flagINC (v : Byte) (cy : Bool) : Byte × Flags :=
  let res := BitVec.ofNat 8 (v.toNat + 1)
  (res, { z := res == 0, n := false, h := decide (lowNibble v + 1 > 0xF), c := cy })

/-- Class DEC (R151); `cy` is the old carry, which the caller keeps. -/
def flagDEC (v : Byte) (cy : Bool) : Byte × Flags :=
  let res := v - 1
  (res, { z := res == 0, n := true, h := decide (lowNibble v < 1), c := cy })

/-- Class ADD16 (R152): `policy` is `ADD16_Z`, `oldZ` the Z before the instruction. -/
def flagADD16 (policy : Add16Z) (a b : Word) (oldZ : Bool) : Word × Flags :=
  let t := a.toNat + b.toNat
  let res := BitVec.ofNat 16 t
  let z := match policy with
    | .fromResult => res == 0
    | .unaffected => oldZ
  (res, { z := z, n := false, h := decide (a.toNat % 0x1000 + b.toNat % 0x1000 > 0xFFF), c := decide (t > 0xFFFF) })

/-- The class that the field aaa selects (30_encoding.md R75): its result and flags for A, the operand and the carry-in. -/
def aluResult (p : Params) (op : AluOp) (a b : Byte) (cin : Bool) : Byte × Flags :=
  match op with
  | .add => flagADD a b
  | .adc => flagADC p.carryMode a b cin
  | .sub => flagSUB a b
  | .sbc => flagSBC p.carryMode a b cin
  | .and => flagAND p.andH a b
  | .xor => flagXOR a b
  | .or => flagOR a b
  | .cp => flagCP a b

end Sys2Proof.Machine
end

