-- ==== Sys2Proof/Decode.lean ====
section
/-! DEFINITION. Decoding and encoding (spec/30_encoding.md). Decoding follows the opcode map of R77: one slot for each opcode
byte. Encoding follows the formats and fields of R71 to R75, so that the round trip compares the two tables. -/
namespace Sys2Proof

/-! ### Byte order (20_memory.md R53, R56) -/

/-- `hi:lo`, the word whose high byte is `hi` (00_scope.md R11). -/
def wordOf (hi lo : Byte) : Word := hi ++ lo

/-- Bits 15 to 8 of a word. -/
def hiByte (w : Word) : Byte := w.extractLsb' 8 8

/-- Bits 7 to 0 of a word. -/
def loByte (w : Word) : Byte := w.extractLsb' 0 8

/-! ### Fields (30_encoding.md R72 to R75) -/

/-- The 3-bit register field ddd or sss of a register (R72). -/
def Reg8.field : Reg8 → BitVec 3
  | .b => 0 | .c => 1 | .d => 2 | .e => 3 | .h => 4 | .l => 5 | .a => 7

/-- The register-file index of a register (10_state.md R22): the field value, passed straight through (R72). -/
def Reg8.index : Reg8 → Nat
  | .b => 0 | .c => 1 | .d => 2 | .e => 3 | .h => 4 | .l => 5 | .a => 7

/-- The register field value of the (HL) operand (R72). -/
def hlField : BitVec 3 := 6

/-- The 2-bit pair field pp (R73). -/
def Pair.field : Pair → BitVec 2
  | .bc => 0 | .de => 1 | .hl => 2 | .sp => 3

/-- The 2-bit condition field cc (R74). -/
def Cond.field : Cond → BitVec 2
  | .nz => 0 | .z => 1 | .nc => 2 | .c => 3

/-- The 3-bit ALU operation field aaa (R75). -/
def AluOp.field : AluOp → BitVec 3
  | .add => 0 | .adc => 1 | .sub => 2 | .sbc => 3 | .and => 4 | .xor => 5 | .or => 6 | .cp => 7

/-! ### Formats: the opcode byte from its fields (30_encoding.md R71) -/

/-- F_RR: `01 ddd sss`. -/
def fRR (d s : BitVec 3) : Byte := 0b01#2 ++ d ++ s
/-- F_R_IMM8: `00 ddd 110`. -/
def fRImm8 (d : BitVec 3) : Byte := 0b00#2 ++ d ++ 0b110#3
/-- F_R: `00 ddd 10x`, x = 0 INC, x = 1 DEC. -/
def fR (d : BitVec 3) (x : BitVec 1) : Byte := 0b00#2 ++ d ++ 0b10#2 ++ x
/-- F_P_IMM16: `00 pp 0001`. -/
def fPImm16 (p : BitVec 2) : Byte := 0b00#2 ++ p ++ 0b0001#4
/-- F_P: `00 pp y011`, y = 0 INC rr, y = 1 DEC rr. -/
def fP (p : BitVec 2) (y : BitVec 1) : Byte := 0b00#2 ++ p ++ y ++ 0b011#3
/-- F_P: `00 pp 1001`, ADD HL,rr. -/
def fPAdd (p : BitVec 2) : Byte := 0b00#2 ++ p ++ 0b1001#4
/-- F_IND: `00 pp z010`, z = 0 store A, z = 1 load A. -/
def fInd (p : BitVec 2) (z : BitVec 1) : Byte := 0b00#2 ++ p ++ z ++ 0b010#3
/-- F_ALU_R: `10 aaa sss`. -/
def fAluR (a s : BitVec 3) : Byte := 0b10#2 ++ a ++ s
/-- F_ALU_IMM8: `11 aaa 110`. -/
def fAluImm8 (a : BitVec 3) : Byte := 0b11#2 ++ a ++ 0b110#3
/-- F_CC_REL: `001 cc 000`. -/
def fCcRel (c : BitVec 2) : Byte := 0b001#3 ++ c ++ 0b000#3
/-- F_IMM8: `111 w 0000`, w = 0 LDH (n),A, w = 1 LDH A,(n). -/
def fImm8 (w : BitVec 1) : Byte := 0b111#3 ++ w ++ 0b0000#4

/-! ### The dispatch table (30_encoding.md R77, R80) -/

/-- One slot of the 256-entry table: unpopulated, or the instruction it selects, given its operand bytes. -/
inductive Slot where
  /-- no handler (R81) -/
  | unpopulated
  /-- a one-byte instruction -/
  | alone (i : Instr)
  /-- a two-byte instruction: the operand is the byte at PC + 1 -/
  | withByte (f : Byte → Instr)
  /-- a three-byte instruction: the operand is the little-endian word at PC + 1 -/
  | withWord (f : Word → Instr)

/-- Row 0x of the opcode map (R77). -/
def opcodeRow0 : List Slot := [
  .alone .nop, .withWord .ld_bc_nn, .alone .ld_at_bc_a, .alone .inc_bc,
  .alone .inc_b, .alone .dec_b, .withByte .ld_b_n, .unpopulated,
  .unpopulated, .alone .add_hl_bc, .alone .ld_a_at_bc, .alone .dec_bc,
  .alone .inc_c, .alone .dec_c, .withByte .ld_c_n, .unpopulated]

/-- Row 1x of the opcode map (R77). -/
def opcodeRow1 : List Slot := [
  .unpopulated, .withWord .ld_de_nn, .alone .ld_at_de_a, .alone .inc_de,
  .alone .inc_d, .alone .dec_d, .withByte .ld_d_n, .unpopulated,
  .withByte .jr_e, .alone .add_hl_de, .alone .ld_a_at_de, .alone .dec_de,
  .alone .inc_e, .alone .dec_e, .withByte .ld_e_n, .unpopulated]

/-- Row 2x of the opcode map (R77). -/
def opcodeRow2 : List Slot := [
  .withByte .jr_nz_e, .withWord .ld_hl_nn, .alone .ld_at_hli_a, .alone .inc_hl,
  .alone .inc_h, .alone .dec_h, .withByte .ld_h_n, .unpopulated,
  .withByte .jr_z_e, .alone .add_hl_hl, .alone .ld_a_at_hli, .alone .dec_hl,
  .alone .inc_l, .alone .dec_l, .withByte .ld_l_n, .unpopulated]

/-- Row 3x of the opcode map (R77). -/
def opcodeRow3 : List Slot := [
  .withByte .jr_nc_e, .withWord .ld_sp_nn, .alone .ld_at_hld_a, .alone .inc_sp,
  .alone .inc_at_hl, .alone .dec_at_hl, .withByte .ld_at_hl_n, .unpopulated,
  .withByte .jr_c_e, .alone .add_hl_sp, .alone .ld_a_at_hld, .alone .dec_sp,
  .alone .inc_a, .alone .dec_a, .withByte .ld_a_n, .unpopulated]

/-- Row 4x of the opcode map (R77). -/
def opcodeRow4 : List Slot := [
  .alone .ld_b_b, .alone .ld_b_c, .alone .ld_b_d, .alone .ld_b_e,
  .alone .ld_b_h, .alone .ld_b_l, .alone .ld_b_at_hl, .alone .ld_b_a,
  .alone .ld_c_b, .alone .ld_c_c, .alone .ld_c_d, .alone .ld_c_e,
  .alone .ld_c_h, .alone .ld_c_l, .alone .ld_c_at_hl, .alone .ld_c_a]

/-- Row 5x of the opcode map (R77). -/
def opcodeRow5 : List Slot := [
  .alone .ld_d_b, .alone .ld_d_c, .alone .ld_d_d, .alone .ld_d_e,
  .alone .ld_d_h, .alone .ld_d_l, .alone .ld_d_at_hl, .alone .ld_d_a,
  .alone .ld_e_b, .alone .ld_e_c, .alone .ld_e_d, .alone .ld_e_e,
  .alone .ld_e_h, .alone .ld_e_l, .alone .ld_e_at_hl, .alone .ld_e_a]

/-- Row 6x of the opcode map (R77). -/
def opcodeRow6 : List Slot := [
  .alone .ld_h_b, .alone .ld_h_c, .alone .ld_h_d, .alone .ld_h_e,
  .alone .ld_h_h, .alone .ld_h_l, .alone .ld_h_at_hl, .alone .ld_h_a,
  .alone .ld_l_b, .alone .ld_l_c, .alone .ld_l_d, .alone .ld_l_e,
  .alone .ld_l_h, .alone .ld_l_l, .alone .ld_l_at_hl, .alone .ld_l_a]

/-- Row 7x of the opcode map (R77). -/
def opcodeRow7 : List Slot := [
  .alone .ld_at_hl_b, .alone .ld_at_hl_c, .alone .ld_at_hl_d, .alone .ld_at_hl_e,
  .alone .ld_at_hl_h, .alone .ld_at_hl_l, .unpopulated, .alone .ld_at_hl_a,
  .alone .ld_a_b, .alone .ld_a_c, .alone .ld_a_d, .alone .ld_a_e,
  .alone .ld_a_h, .alone .ld_a_l, .alone .ld_a_at_hl, .alone .ld_a_a]

/-- Row 8x of the opcode map (R77). -/
def opcodeRow8 : List Slot := [
  .alone .add_a_b, .alone .add_a_c, .alone .add_a_d, .alone .add_a_e,
  .alone .add_a_h, .alone .add_a_l, .alone .add_a_at_hl, .alone .add_a_a,
  .alone .adc_a_b, .alone .adc_a_c, .alone .adc_a_d, .alone .adc_a_e,
  .alone .adc_a_h, .alone .adc_a_l, .alone .adc_a_at_hl, .alone .adc_a_a]

/-- Row 9x of the opcode map (R77). -/
def opcodeRow9 : List Slot := [
  .alone .sub_b, .alone .sub_c, .alone .sub_d, .alone .sub_e,
  .alone .sub_h, .alone .sub_l, .alone .sub_at_hl, .alone .sub_a,
  .alone .sbc_a_b, .alone .sbc_a_c, .alone .sbc_a_d, .alone .sbc_a_e,
  .alone .sbc_a_h, .alone .sbc_a_l, .alone .sbc_a_at_hl, .alone .sbc_a_a]

/-- Row Ax of the opcode map (R77). -/
def opcodeRowA : List Slot := [
  .alone .and_b, .alone .and_c, .alone .and_d, .alone .and_e,
  .alone .and_h, .alone .and_l, .alone .and_at_hl, .alone .and_a,
  .alone .xor_b, .alone .xor_c, .alone .xor_d, .alone .xor_e,
  .alone .xor_h, .alone .xor_l, .alone .xor_at_hl, .alone .xor_a]

/-- Row Bx of the opcode map (R77). -/
def opcodeRowB : List Slot := [
  .alone .or_b, .alone .or_c, .alone .or_d, .alone .or_e,
  .alone .or_h, .alone .or_l, .alone .or_at_hl, .alone .or_a,
  .alone .cp_b, .alone .cp_c, .alone .cp_d, .alone .cp_e,
  .alone .cp_h, .alone .cp_l, .alone .cp_at_hl, .alone .cp_a]

/-- Row Cx of the opcode map (R77). -/
def opcodeRowC : List Slot := [
  .unpopulated, .unpopulated, .unpopulated, .withWord .jp_nn,
  .unpopulated, .unpopulated, .withByte .add_a_n, .unpopulated,
  .unpopulated, .unpopulated, .unpopulated, .unpopulated,
  .unpopulated, .unpopulated, .withByte .adc_a_n, .unpopulated]

/-- Row Dx of the opcode map (R77). -/
def opcodeRowD : List Slot := [
  .unpopulated, .unpopulated, .unpopulated, .unpopulated,
  .unpopulated, .unpopulated, .withByte .sub_n, .unpopulated,
  .unpopulated, .unpopulated, .unpopulated, .unpopulated,
  .unpopulated, .unpopulated, .withByte .sbc_a_n, .unpopulated]

/-- Row Ex of the opcode map (R77). -/
def opcodeRowE : List Slot := [
  .withByte .ldh_at_n_a, .unpopulated, .unpopulated, .unpopulated,
  .unpopulated, .unpopulated, .withByte .and_n, .unpopulated,
  .unpopulated, .unpopulated, .withWord .ld_at_nn_a, .unpopulated,
  .unpopulated, .unpopulated, .withByte .xor_n, .unpopulated]

/-- Row Fx of the opcode map (R77). -/
def opcodeRowF : List Slot := [
  .withByte .ldh_a_at_n, .unpopulated, .unpopulated, .alone .di,
  .unpopulated, .unpopulated, .withByte .or_n, .unpopulated,
  .unpopulated, .unpopulated, .withWord .ld_a_at_nn, .alone .ei,
  .unpopulated, .unpopulated, .withByte .cp_n, .unpopulated]

/-- The opcode map: rows by the high nibble, columns by the low one (R77). -/
def opcodeMap : List (List Slot) :=
  [opcodeRow0, opcodeRow1, opcodeRow2, opcodeRow3, opcodeRow4, opcodeRow5, opcodeRow6, opcodeRow7,
   opcodeRow8, opcodeRow9, opcodeRowA, opcodeRowB, opcodeRowC, opcodeRowD, opcodeRowE, opcodeRowF]

/-- The indexed lookup of the dispatch table (R80). -/
def slot (op : Byte) : Slot :=
  (opcodeMap.getD (op.toNat / 16) []).getD (op.toNat % 16) .unpopulated

/-- The 60 opcodes outside S_def (30_encoding.md R81; 95_test_vectors.md section 2.9). -/
def undefinedOpcodes : List Byte := [
  0x07, 0x08, 0x0F, 0x10, 0x17, 0x1F, 0x27, 0x2F, 0x37, 0x3F, 0x76, 0xC0, 0xC1, 0xC2, 0xC4,
  0xC5, 0xC7, 0xC8, 0xC9, 0xCA, 0xCB, 0xCC, 0xCD, 0xCF, 0xD0, 0xD1, 0xD2, 0xD3, 0xD4, 0xD5,
  0xD7, 0xD8, 0xD9, 0xDA, 0xDB, 0xDC, 0xDD, 0xDF, 0xE1, 0xE2, 0xE3, 0xE4, 0xE5, 0xE7, 0xE8,
  0xE9, 0xEB, 0xEC, 0xED, 0xEF, 0xF1, 0xF2, 0xF4, 0xF5, 0xF7, 0xF8, 0xF9, 0xFC, 0xFD, 0xFF]

/-- How many bytes an opcode's instruction has (R79); an unpopulated slot is fetched alone (R57, R83). -/
def lengthOf (op : Byte) : Nat :=
  match slot op with
  | .unpopulated => 1
  | .alone _ => 1
  | .withByte _ => 2
  | .withWord _ => 3

/-! ### Decoding -/

/-- Why bytes are not an instruction: only because some are missing. No opcode and no operand byte is illegal (R84, R85). -/
inductive DecodeError where
  /-- no opcode byte -/
  | noOpcode
  /-- the opcode's operand needs more bytes than there are -/
  | missingOperand (opcode : Byte) (need got : Nat)
  deriving DecidableEq, Repr

/-- Reads one instruction from the front of a list of bytes and returns the rest of them (R70, R76, R85). -/
def decode : List Byte → Except DecodeError (Instr × List Byte)
  | [] => .error .noOpcode
  | op :: rest =>
    match slot op, rest with
    | .unpopulated, _ => .ok (.undefined op, rest)
    | .alone i, _ => .ok (i, rest)
    | .withByte f, n :: rest' => .ok (f n, rest')
    | .withByte _, [] => .error (.missingOperand op 1 0)
    | .withWord f, lo :: hi :: rest' => .ok (f (wordOf hi lo), rest')
    | .withWord _, short => .error (.missingOperand op 2 short.length)

/-- Byte k of an instruction whose bits are w, numbered as spec/opcode_table.json numbers them: the bits above nbits are 0. -/
def tableByte (nbits w k : Nat) : Byte := BitVec.ofNat 8 (w % 2 ^ nbits / 2 ^ (8 * k))

/-- The three bytes, the longest instruction's, of an instruction whose bits are w; the first lies at the lowest address. -/
def tableBytes (nbits w : Nat) : List Byte := [tableByte nbits w 0, tableByte nbits w 1, tableByte nbits w 2]

/-- What the decoder reads from an instruction whose bits are w. -/
def decodeTableWord (nbits w : Nat) : Option Instr :=
  match decode (tableBytes nbits w) with
  | .ok (i, _) => some i
  | .error _ => none

/-! ### Encoding -/

/-- An opcode byte and the little-endian word after it (R76). -/
def opWithWord (op : Byte) (nn : Word) : List Byte := [op, loByte nn, hiByte nn]

/-- The bytes of an instruction, from the formats and fields of R71 to R76. -/
def encode : Instr → List Byte
  | .nop => [0x00]
  | .ld_bc_nn nn => opWithWord (fPImm16 Pair.bc.field) nn
  | .ld_at_bc_a => [fInd 0 0]
  | .inc_bc => [fP Pair.bc.field 0]
  | .inc_b => [fR Reg8.b.field 0]
  | .dec_b => [fR Reg8.b.field 1]
  | .ld_b_n n => [fRImm8 Reg8.b.field, n]
  | .add_hl_bc => [fPAdd Pair.bc.field]
  | .ld_a_at_bc => [fInd 0 1]
  | .dec_bc => [fP Pair.bc.field 1]
  | .inc_c => [fR Reg8.c.field 0]
  | .dec_c => [fR Reg8.c.field 1]
  | .ld_c_n n => [fRImm8 Reg8.c.field, n]
  | .ld_de_nn nn => opWithWord (fPImm16 Pair.de.field) nn
  | .ld_at_de_a => [fInd 1 0]
  | .inc_de => [fP Pair.de.field 0]
  | .inc_d => [fR Reg8.d.field 0]
  | .dec_d => [fR Reg8.d.field 1]
  | .ld_d_n n => [fRImm8 Reg8.d.field, n]
  | .jr_e e => [0x18, e]
  | .add_hl_de => [fPAdd Pair.de.field]
  | .ld_a_at_de => [fInd 1 1]
  | .dec_de => [fP Pair.de.field 1]
  | .inc_e => [fR Reg8.e.field 0]
  | .dec_e => [fR Reg8.e.field 1]
  | .ld_e_n n => [fRImm8 Reg8.e.field, n]
  | .jr_nz_e e => [fCcRel Cond.nz.field, e]
  | .ld_hl_nn nn => opWithWord (fPImm16 Pair.hl.field) nn
  | .ld_at_hli_a => [fInd 2 0]
  | .inc_hl => [fP Pair.hl.field 0]
  | .inc_h => [fR Reg8.h.field 0]
  | .dec_h => [fR Reg8.h.field 1]
  | .ld_h_n n => [fRImm8 Reg8.h.field, n]
  | .jr_z_e e => [fCcRel Cond.z.field, e]
  | .add_hl_hl => [fPAdd Pair.hl.field]
  | .ld_a_at_hli => [fInd 2 1]
  | .dec_hl => [fP Pair.hl.field 1]
  | .inc_l => [fR Reg8.l.field 0]
  | .dec_l => [fR Reg8.l.field 1]
  | .ld_l_n n => [fRImm8 Reg8.l.field, n]
  | .jr_nc_e e => [fCcRel Cond.nc.field, e]
  | .ld_sp_nn nn => opWithWord (fPImm16 Pair.sp.field) nn
  | .ld_at_hld_a => [fInd 3 0]
  | .inc_sp => [fP Pair.sp.field 0]
  | .inc_at_hl => [fR hlField 0]
  | .dec_at_hl => [fR hlField 1]
  | .ld_at_hl_n n => [fRImm8 hlField, n]
  | .jr_c_e e => [fCcRel Cond.c.field, e]
  | .add_hl_sp => [fPAdd Pair.sp.field]
  | .ld_a_at_hld => [fInd 3 1]
  | .dec_sp => [fP Pair.sp.field 1]
  | .inc_a => [fR Reg8.a.field 0]
  | .dec_a => [fR Reg8.a.field 1]
  | .ld_a_n n => [fRImm8 Reg8.a.field, n]
  | .ld_b_b => [fRR Reg8.b.field Reg8.b.field]
  | .ld_b_c => [fRR Reg8.b.field Reg8.c.field]
  | .ld_b_d => [fRR Reg8.b.field Reg8.d.field]
  | .ld_b_e => [fRR Reg8.b.field Reg8.e.field]
  | .ld_b_h => [fRR Reg8.b.field Reg8.h.field]
  | .ld_b_l => [fRR Reg8.b.field Reg8.l.field]
  | .ld_b_at_hl => [fRR Reg8.b.field hlField]
  | .ld_b_a => [fRR Reg8.b.field Reg8.a.field]
  | .ld_c_b => [fRR Reg8.c.field Reg8.b.field]
  | .ld_c_c => [fRR Reg8.c.field Reg8.c.field]
  | .ld_c_d => [fRR Reg8.c.field Reg8.d.field]
  | .ld_c_e => [fRR Reg8.c.field Reg8.e.field]
  | .ld_c_h => [fRR Reg8.c.field Reg8.h.field]
  | .ld_c_l => [fRR Reg8.c.field Reg8.l.field]
  | .ld_c_at_hl => [fRR Reg8.c.field hlField]
  | .ld_c_a => [fRR Reg8.c.field Reg8.a.field]
  | .ld_d_b => [fRR Reg8.d.field Reg8.b.field]
  | .ld_d_c => [fRR Reg8.d.field Reg8.c.field]
  | .ld_d_d => [fRR Reg8.d.field Reg8.d.field]
  | .ld_d_e => [fRR Reg8.d.field Reg8.e.field]
  | .ld_d_h => [fRR Reg8.d.field Reg8.h.field]
  | .ld_d_l => [fRR Reg8.d.field Reg8.l.field]
  | .ld_d_at_hl => [fRR Reg8.d.field hlField]
  | .ld_d_a => [fRR Reg8.d.field Reg8.a.field]
  | .ld_e_b => [fRR Reg8.e.field Reg8.b.field]
  | .ld_e_c => [fRR Reg8.e.field Reg8.c.field]
  | .ld_e_d => [fRR Reg8.e.field Reg8.d.field]
  | .ld_e_e => [fRR Reg8.e.field Reg8.e.field]
  | .ld_e_h => [fRR Reg8.e.field Reg8.h.field]
  | .ld_e_l => [fRR Reg8.e.field Reg8.l.field]
  | .ld_e_at_hl => [fRR Reg8.e.field hlField]
  | .ld_e_a => [fRR Reg8.e.field Reg8.a.field]
  | .ld_h_b => [fRR Reg8.h.field Reg8.b.field]
  | .ld_h_c => [fRR Reg8.h.field Reg8.c.field]
  | .ld_h_d => [fRR Reg8.h.field Reg8.d.field]
  | .ld_h_e => [fRR Reg8.h.field Reg8.e.field]
  | .ld_h_h => [fRR Reg8.h.field Reg8.h.field]
  | .ld_h_l => [fRR Reg8.h.field Reg8.l.field]
  | .ld_h_at_hl => [fRR Reg8.h.field hlField]
  | .ld_h_a => [fRR Reg8.h.field Reg8.a.field]
  | .ld_l_b => [fRR Reg8.l.field Reg8.b.field]
  | .ld_l_c => [fRR Reg8.l.field Reg8.c.field]
  | .ld_l_d => [fRR Reg8.l.field Reg8.d.field]
  | .ld_l_e => [fRR Reg8.l.field Reg8.e.field]
  | .ld_l_h => [fRR Reg8.l.field Reg8.h.field]
  | .ld_l_l => [fRR Reg8.l.field Reg8.l.field]
  | .ld_l_at_hl => [fRR Reg8.l.field hlField]
  | .ld_l_a => [fRR Reg8.l.field Reg8.a.field]
  | .ld_at_hl_b => [fRR hlField Reg8.b.field]
  | .ld_at_hl_c => [fRR hlField Reg8.c.field]
  | .ld_at_hl_d => [fRR hlField Reg8.d.field]
  | .ld_at_hl_e => [fRR hlField Reg8.e.field]
  | .ld_at_hl_h => [fRR hlField Reg8.h.field]
  | .ld_at_hl_l => [fRR hlField Reg8.l.field]
  | .ld_at_hl_a => [fRR hlField Reg8.a.field]
  | .ld_a_b => [fRR Reg8.a.field Reg8.b.field]
  | .ld_a_c => [fRR Reg8.a.field Reg8.c.field]
  | .ld_a_d => [fRR Reg8.a.field Reg8.d.field]
  | .ld_a_e => [fRR Reg8.a.field Reg8.e.field]
  | .ld_a_h => [fRR Reg8.a.field Reg8.h.field]
  | .ld_a_l => [fRR Reg8.a.field Reg8.l.field]
  | .ld_a_at_hl => [fRR Reg8.a.field hlField]
  | .ld_a_a => [fRR Reg8.a.field Reg8.a.field]
  | .add_a_b => [fAluR AluOp.add.field Reg8.b.field]
  | .add_a_c => [fAluR AluOp.add.field Reg8.c.field]
  | .add_a_d => [fAluR AluOp.add.field Reg8.d.field]
  | .add_a_e => [fAluR AluOp.add.field Reg8.e.field]
  | .add_a_h => [fAluR AluOp.add.field Reg8.h.field]
  | .add_a_l => [fAluR AluOp.add.field Reg8.l.field]
  | .add_a_at_hl => [fAluR AluOp.add.field hlField]
  | .add_a_a => [fAluR AluOp.add.field Reg8.a.field]
  | .adc_a_b => [fAluR AluOp.adc.field Reg8.b.field]
  | .adc_a_c => [fAluR AluOp.adc.field Reg8.c.field]
  | .adc_a_d => [fAluR AluOp.adc.field Reg8.d.field]
  | .adc_a_e => [fAluR AluOp.adc.field Reg8.e.field]
  | .adc_a_h => [fAluR AluOp.adc.field Reg8.h.field]
  | .adc_a_l => [fAluR AluOp.adc.field Reg8.l.field]
  | .adc_a_at_hl => [fAluR AluOp.adc.field hlField]
  | .adc_a_a => [fAluR AluOp.adc.field Reg8.a.field]
  | .sub_b => [fAluR AluOp.sub.field Reg8.b.field]
  | .sub_c => [fAluR AluOp.sub.field Reg8.c.field]
  | .sub_d => [fAluR AluOp.sub.field Reg8.d.field]
  | .sub_e => [fAluR AluOp.sub.field Reg8.e.field]
  | .sub_h => [fAluR AluOp.sub.field Reg8.h.field]
  | .sub_l => [fAluR AluOp.sub.field Reg8.l.field]
  | .sub_at_hl => [fAluR AluOp.sub.field hlField]
  | .sub_a => [fAluR AluOp.sub.field Reg8.a.field]
  | .sbc_a_b => [fAluR AluOp.sbc.field Reg8.b.field]
  | .sbc_a_c => [fAluR AluOp.sbc.field Reg8.c.field]
  | .sbc_a_d => [fAluR AluOp.sbc.field Reg8.d.field]
  | .sbc_a_e => [fAluR AluOp.sbc.field Reg8.e.field]
  | .sbc_a_h => [fAluR AluOp.sbc.field Reg8.h.field]
  | .sbc_a_l => [fAluR AluOp.sbc.field Reg8.l.field]
  | .sbc_a_at_hl => [fAluR AluOp.sbc.field hlField]
  | .sbc_a_a => [fAluR AluOp.sbc.field Reg8.a.field]
  | .and_b => [fAluR AluOp.and.field Reg8.b.field]
  | .and_c => [fAluR AluOp.and.field Reg8.c.field]
  | .and_d => [fAluR AluOp.and.field Reg8.d.field]
  | .and_e => [fAluR AluOp.and.field Reg8.e.field]
  | .and_h => [fAluR AluOp.and.field Reg8.h.field]
  | .and_l => [fAluR AluOp.and.field Reg8.l.field]
  | .and_at_hl => [fAluR AluOp.and.field hlField]
  | .and_a => [fAluR AluOp.and.field Reg8.a.field]
  | .xor_b => [fAluR AluOp.xor.field Reg8.b.field]
  | .xor_c => [fAluR AluOp.xor.field Reg8.c.field]
  | .xor_d => [fAluR AluOp.xor.field Reg8.d.field]
  | .xor_e => [fAluR AluOp.xor.field Reg8.e.field]
  | .xor_h => [fAluR AluOp.xor.field Reg8.h.field]
  | .xor_l => [fAluR AluOp.xor.field Reg8.l.field]
  | .xor_at_hl => [fAluR AluOp.xor.field hlField]
  | .xor_a => [fAluR AluOp.xor.field Reg8.a.field]
  | .or_b => [fAluR AluOp.or.field Reg8.b.field]
  | .or_c => [fAluR AluOp.or.field Reg8.c.field]
  | .or_d => [fAluR AluOp.or.field Reg8.d.field]
  | .or_e => [fAluR AluOp.or.field Reg8.e.field]
  | .or_h => [fAluR AluOp.or.field Reg8.h.field]
  | .or_l => [fAluR AluOp.or.field Reg8.l.field]
  | .or_at_hl => [fAluR AluOp.or.field hlField]
  | .or_a => [fAluR AluOp.or.field Reg8.a.field]
  | .cp_b => [fAluR AluOp.cp.field Reg8.b.field]
  | .cp_c => [fAluR AluOp.cp.field Reg8.c.field]
  | .cp_d => [fAluR AluOp.cp.field Reg8.d.field]
  | .cp_e => [fAluR AluOp.cp.field Reg8.e.field]
  | .cp_h => [fAluR AluOp.cp.field Reg8.h.field]
  | .cp_l => [fAluR AluOp.cp.field Reg8.l.field]
  | .cp_at_hl => [fAluR AluOp.cp.field hlField]
  | .cp_a => [fAluR AluOp.cp.field Reg8.a.field]
  | .jp_nn nn => opWithWord 0xC3 nn
  | .add_a_n n => [fAluImm8 AluOp.add.field, n]
  | .adc_a_n n => [fAluImm8 AluOp.adc.field, n]
  | .sub_n n => [fAluImm8 AluOp.sub.field, n]
  | .sbc_a_n n => [fAluImm8 AluOp.sbc.field, n]
  | .ldh_at_n_a n => [fImm8 0, n]
  | .and_n n => [fAluImm8 AluOp.and.field, n]
  | .ld_at_nn_a nn => opWithWord 0xEA nn
  | .xor_n n => [fAluImm8 AluOp.xor.field, n]
  | .ldh_a_at_n n => [fImm8 1, n]
  | .di => [0xF3]
  | .or_n n => [fAluImm8 AluOp.or.field, n]
  | .ld_a_at_nn nn => opWithWord 0xFA nn
  | .ei => [0xFB]
  | .cp_n n => [fAluImm8 AluOp.cp.field, n]
  | .undefined op => [op]

/-- The opcode byte of an instruction. -/
def Instr.opcode (i : Instr) : Byte := (encode i).headD 0

end Sys2Proof
end

