-- ==== Sys2Proof/WellFormed.lean ====
section
/-! DEFINITION. Well-formedness of an instruction (spec/30_encoding.md R84, R85): within S_def every operand value is legal, so the
one check is that `undefined` carries an opcode that has no handler. -/
namespace Sys2Proof

/-- The instruction is one that some bytes of S_def, or an unpopulated slot, encode (R81, R84). -/
def Instr.wellFormed : Instr → Bool
  | .nop | .ld_bc_nn _ | .ld_at_bc_a | .inc_bc | .inc_b | .dec_b | .ld_b_n _ | .add_hl_bc
  | .ld_a_at_bc | .dec_bc | .inc_c | .dec_c | .ld_c_n _ | .ld_de_nn _ | .ld_at_de_a | .inc_de
  | .inc_d | .dec_d | .ld_d_n _ | .jr_e _ | .add_hl_de | .ld_a_at_de | .dec_de | .inc_e
  | .dec_e | .ld_e_n _ | .jr_nz_e _ | .ld_hl_nn _ | .ld_at_hli_a | .inc_hl | .inc_h | .dec_h
  | .ld_h_n _ | .jr_z_e _ | .add_hl_hl | .ld_a_at_hli | .dec_hl | .inc_l | .dec_l | .ld_l_n _
  | .jr_nc_e _ | .ld_sp_nn _ | .ld_at_hld_a | .inc_sp | .inc_at_hl | .dec_at_hl | .ld_at_hl_n _ | .jr_c_e _
  | .add_hl_sp | .ld_a_at_hld | .dec_sp | .inc_a | .dec_a | .ld_a_n _ | .ld_b_b | .ld_b_c
  | .ld_b_d | .ld_b_e | .ld_b_h | .ld_b_l | .ld_b_at_hl | .ld_b_a | .ld_c_b | .ld_c_c
  | .ld_c_d | .ld_c_e | .ld_c_h | .ld_c_l | .ld_c_at_hl | .ld_c_a | .ld_d_b | .ld_d_c
  | .ld_d_d | .ld_d_e | .ld_d_h | .ld_d_l | .ld_d_at_hl | .ld_d_a | .ld_e_b | .ld_e_c
  | .ld_e_d | .ld_e_e | .ld_e_h | .ld_e_l | .ld_e_at_hl | .ld_e_a | .ld_h_b | .ld_h_c
  | .ld_h_d | .ld_h_e | .ld_h_h | .ld_h_l | .ld_h_at_hl | .ld_h_a | .ld_l_b | .ld_l_c
  | .ld_l_d | .ld_l_e | .ld_l_h | .ld_l_l | .ld_l_at_hl | .ld_l_a | .ld_at_hl_b | .ld_at_hl_c
  | .ld_at_hl_d | .ld_at_hl_e | .ld_at_hl_h | .ld_at_hl_l | .ld_at_hl_a | .ld_a_b | .ld_a_c | .ld_a_d
  | .ld_a_e | .ld_a_h | .ld_a_l | .ld_a_at_hl | .ld_a_a | .add_a_b | .add_a_c | .add_a_d
  | .add_a_e | .add_a_h | .add_a_l | .add_a_at_hl | .add_a_a | .adc_a_b | .adc_a_c | .adc_a_d
  | .adc_a_e | .adc_a_h | .adc_a_l | .adc_a_at_hl | .adc_a_a | .sub_b | .sub_c | .sub_d
  | .sub_e | .sub_h | .sub_l | .sub_at_hl | .sub_a | .sbc_a_b | .sbc_a_c | .sbc_a_d
  | .sbc_a_e | .sbc_a_h | .sbc_a_l | .sbc_a_at_hl | .sbc_a_a | .and_b | .and_c | .and_d
  | .and_e | .and_h | .and_l | .and_at_hl | .and_a | .xor_b | .xor_c | .xor_d
  | .xor_e | .xor_h | .xor_l | .xor_at_hl | .xor_a | .or_b | .or_c | .or_d
  | .or_e | .or_h | .or_l | .or_at_hl | .or_a | .cp_b | .cp_c | .cp_d
  | .cp_e | .cp_h | .cp_l | .cp_at_hl | .cp_a | .jp_nn _ | .add_a_n _ | .adc_a_n _
  | .sub_n _ | .sbc_a_n _ | .ldh_at_n_a _ | .and_n _ | .ld_at_nn_a _ | .xor_n _ | .ldh_a_at_n _ | .di
  | .or_n _ | .ld_a_at_nn _ | .ei | .cp_n _ => true
  | .undefined op => undefinedOpcodes.contains op

end Sys2Proof
end

