-- ==== Sys2Proof/Machine/Ops.lean ====
section
/-! DEFINITION. The named operations over registers and memory: the register file (spec/10_state.md R22 to R25), the memory interface
(20_memory.md R50 to R56, R67), raising a fault (60_exceptions.md R250 to R253), and the end of an instruction (00_scope.md R15,
70_reset_and_hazards.md R289). There is no return from an exception: the core has none (60_exceptions.md R258). -/
namespace Sys2Proof.Machine

/-! ### Registers -/

/-- The value of an 8-bit register. -/
def State.reg (s : State) : Reg8 → Byte
  | .b => s.b | .c => s.c | .d => s.d | .e => s.e | .h => s.h | .l => s.l | .a => s.a

/-- Writes an 8-bit register and nothing else (10_state.md R22, R24). -/
def State.setReg (s : State) (r : Reg8) (v : Byte) : State :=
  match r with
  | .b => { s with b := v }
  | .c => { s with c := v }
  | .d => { s with d := v }
  | .e => { s with e := v }
  | .h => { s with h := v }
  | .l => { s with l := v }
  | .a => { s with a := v }

/-- BC, the view B:C (10_state.md R24). -/
def State.bc (s : State) : Word := wordOf s.b s.c
/-- DE, the view D:E. -/
def State.de (s : State) : Word := wordOf s.d s.e
/-- HL, the view H:L. -/
def State.hl (s : State) : Word := wordOf s.h s.l
/-- AF, the view A:F; no instruction reads or writes it as a pair. -/
def State.af (s : State) : Word := wordOf s.a s.f

/-- The value of a 16-bit register (10_state.md R24, R25). -/
def State.pair (s : State) : Pair → Word
  | .bc => s.bc | .de => s.de | .hl => s.hl | .sp => s.sp

/-- Writes a 16-bit register: both halves of a pair, or SP (R24, R25). -/
def State.setPair (s : State) (p : Pair) (v : Word) : State :=
  match p with
  | .bc => { s with b := hiByte v, c := loByte v }
  | .de => { s with d := hiByte v, e := loByte v }
  | .hl => { s with h := hiByte v, l := loByte v }
  | .sp => { s with sp := v }

/-- The register an 8-bit index names; 6, the memory operand, and every index above 7 name none (R22). -/
def regAt : Nat → Option Reg8
  | 0 => some .b | 1 => some .c | 2 => some .d | 3 => some .e | 4 => some .h | 5 => some .l | 7 => some .a
  | _ => none

/-- The pair a 16-bit index names (R25). -/
def pairAt : Nat → Option Pair
  | 0 => some .bc | 1 => some .de | 2 => some .hl
  | _ => none

/-- `read8(i)` of the register file (R22). -/
def read8 (s : State) (i : Nat) : Except Fault Byte :=
  match regAt i with
  | some r => .ok (s.reg r)
  | none => .error (.invalidRegisterIndex i)

/-- `write8(i, v)` of the register file (R22). -/
def write8 (s : State) (i : Nat) (v : Byte) : Except Fault State :=
  match regAt i with
  | some r => .ok (s.setReg r v)
  | none => .error (.invalidRegisterIndex i)

/-- `read16(p)` of the register file (R25). -/
def read16 (s : State) (i : Nat) : Except Fault Word :=
  match pairAt i with
  | some p => .ok (s.pair p)
  | none => .error (.invalidRegisterIndex i)

/-- `write16(p, v)` of the register file (R25). -/
def write16 (s : State) (i : Nat) (v : Word) : Except Fault State :=
  match pairAt i with
  | some p => .ok (s.setPair p v)
  | none => .error (.invalidRegisterIndex i)

/-- `rp[p]`: the register file for BC, DE and HL, and SP beside it (R25). -/
def readPair (s : State) : Pair → Except Fault Word
  | .bc => read16 s 0
  | .de => read16 s 1
  | .hl => read16 s 2
  | .sp => .ok s.sp

/-- `rp[p] <- v` (R25). -/
def writePair (s : State) (p : Pair) (v : Word) : Except Fault State :=
  match p with
  | .bc => write16 s 0 v
  | .de => write16 s 1 v
  | .hl => write16 s 2 v
  | .sp => .ok { s with sp := v }

/-! ### Faults -/

/-- TAKING A FAULT (60_exceptions.md R250 to R255), the one operation: the sequencer becomes Faulted and keeps the record, and nothing
else of the state changes. -/
def raise (r : Fault) (s : State) : Out := .next { s with run := .faulted, fault := some r }

/-- The cause code of a fault (R252). -/
def Fault.causeCode : Fault → Nat
  | .undefinedOpcode _ _ => 1
  | .invalidRegisterIndex _ => 2

/-- Goes on with what a register-file access gave, or raises its fault in the state `s0` in which the instruction began, so that the
instruction's partial effects are discarded (R251; log 14). -/
def orRaise {α : Type} (s0 : State) (r : Except Fault α) (k : α → Out) : Out :=
  match r with
  | .ok v => k v
  | .error e => raise e s0

/-! ### Flat RAM -/

/-- What an address that the memory does not list reads as. DESIGN CHOICE, unsafe (log 2): the spec gives no initial contents. -/
def Memory.unlisted : Byte := 0x00

/-- The byte at an address (20_memory.md R67). -/
def Memory.read : Memory → Nat → Byte
  | [], _ => Memory.unlisted
  | (k, v) :: rest, a => if k = a then v else Memory.read rest a

/-- The memory with one byte changed, in canonical form. -/
def Memory.write : Memory → Nat → Byte → Memory
  | [], a, v => if v = Memory.unlisted then [] else [(a, v)]
  | (k, w) :: rest, a, v =>
    if a < k then
      if v = Memory.unlisted then (k, w) :: rest else (a, v) :: (k, w) :: rest
    else if a = k then
      if v = Memory.unlisted then rest else (a, v) :: rest
    else (k, w) :: Memory.write rest a v

/-- The canonical form: addresses strictly rising and below 2^16, no entry equal to what an unlisted address reads as. -/
def Memory.wf : Memory → Bool
  | [] => true
  | (k, v) :: rest => decide (k < 0x10000) && v != Memory.unlisted && rest.all (fun x => decide (k < x.1)) && Memory.wf rest

/-! ### The memory interface -/

/-- The byte that the collaborator answers to a read of an address: under flat RAM the byte it holds, under the oracle a free value
(20_memory.md R52, R67). -/
def busAnswer (s : State) (a : Word) : Byte :=
  match s.params.memModel with
  | .flatRam => Memory.read s.mem a.toNat
  | .oracle => Config.oracleByte s.history a

/-- Records an access (R67). -/
def State.record (s : State) (x : Access) : State := { s with history := x :: s.history }

/-- `MemRead(a, 1)`: the byte and the state after the access (00_scope.md R13, 20_memory.md R52). -/
def readByte (s : State) (a : Word) : Byte × State :=
  (busAnswer s a, s.record (.readByte a (busAnswer s a)))

/-- The word that the collaborator answers: the byte at a, read first, is the low byte, and the byte at a + 1 mod 2^16 the high one
(20_memory.md R53; the oracle sees the first of the two bytes before it chooses the second, log 16). -/
def busAnswerWord (s : State) (a : Word) : Word :=
  wordOf (busAnswer (s.record (.readByte a (busAnswer s a))) (a + 1)) (busAnswer s a)

/-- `MemRead(a, 2)`: one interface call (R53). -/
def readWord (s : State) (a : Word) : Word × State :=
  (busAnswerWord s a, s.record (.readWord a (busAnswerWord s a)))

/-- `MemWrite(a, 1, v)` (R54): the access is recorded, and flat RAM keeps the byte. -/
def writeByte (s : State) (a : Word) (v : Byte) : State :=
  { s.record (.writeByte a v) with mem := Memory.write s.mem a.toNat v }

/-! ### The end of an instruction -/

/-- Ends an instruction: the pc is set and the nominal cost, plus one, is added to the lifetime total
(10_state.md R31, 70_reset_and_hazards.md R289). -/
def finish (pc : Word) (cost : Nat) (s : State) : Out :=
  .next { s with pc := pc, cyclesTotal := addCycles s.params s.cyclesTotal cost }

/-- Ends an instruction that is no jump: `cycles <- CYCLES(op)`, `pc <- trunc_16(PC + len)` (00_scope.md R15). -/
def advance (op : Byte) (len : Nat) (s : State) : Out :=
  finish (s.pc + BitVec.ofNat 16 len) (cyclesOf s.params op) s

end Sys2Proof.Machine
end

