-- ==== Sys2Proof/Machine/Operands.lean ====
section
/-! DEFINITION. The operand forms (spec/30_encoding.md R72 to R76): register, pair, the byte at HL, immediate, the addresses of the
memory loads (44_memory_loads.md), jump targets and conditions (43_jumps.md). Each form hands its value to the rest of the
instruction. -/
namespace Sys2Proof.Machine

/-- The register operand `r8[s]` (10_state.md R22, 42_alu.md R140). -/
def withReg (s : State) (r : Reg8) (k : Byte → Out) : Out := orRaise s (read8 s r.index) k

/-- The register destination `r8[d] <- v`; `s0` is the state in which the instruction began (10_state.md R22, 60_exceptions.md R251). -/
def intoReg (s0 s : State) (dst : Reg8) (v : Byte) (k : State → Out) : Out := orRaise s0 (write8 s dst.index v) k

/-- The pair operand `rp[p]` (10_state.md R25). -/
def withPair (s : State) (p : Pair) (k : Word → Out) : Out := orRaise s (readPair s p) k

/-- The pair destination `rp[p] <- v` (10_state.md R25). -/
def intoPair (s0 s : State) (p : Pair) (v : Word) (k : State → Out) : Out := orRaise s0 (writePair s p v) k

/-- The memory operand: the byte at an address and the state after the read (30_encoding.md R72, 20_memory.md R52). -/
def withByteAt (s : State) (a : Word) (k : Byte → State → Out) : Out := k (readByte s a).1 (readByte s a).2

/-- The high-page address `0xFF00 + n`, n unsigned (44_memory_loads.md R218, 30_encoding.md R76). -/
def highPage (n : Byte) : Word := 0xFF00 + n.setWidth 16

/-- The address after HL in the HL+ form (44_memory_loads.md R212, 20_memory.md R55). -/
def afterHLI (a : Word) : Word := a + 1

/-- The address after HL in the HL- form (R213). -/
def afterHLD (a : Word) : Word := a - 1

/-- A relative jump's target: the address after the two-byte jump, plus the displacement read as two's complement, mod 2^16
(43_jumps.md R191). -/
def relTarget (pc : Word) (e : Byte) : Word := pc + 2 + e.signExtend 16

/-- The condition of JR cc on the flags (43_jumps.md R190). -/
def condHolds (cc : Cond) (f : Byte) : Bool :=
  match cc with
  | .nz => !flagZ f
  | .z => flagZ f
  | .nc => !flagC f
  | .c => flagC f

end Sys2Proof.Machine
end

