-- ==== Sys2Proof/Machine/Alu.lean ====
section
/-! DEFINITION. The 8-bit ALU and the 16-bit add (spec/42_alu.md section 2). The first operand is always A; the second is a register,
the byte at HL or an immediate (R140). -/
namespace Sys2Proof.Machine

/-- The ALU's writes: the result to A, but for CP, and the four flags to F (R140, R141; `ALUOP` of section 2). The carry-in is read
before anything is written. -/
def aluWrite (op : AluOp) (b : Byte) (s : State) : State :=
  let r := aluResult s.params op s.a b (flagC s.f)
  match op with
  | .cp => { s with f := packFlags r.2 }
  | _ => { s with a := r.1, f := packFlags r.2 }

/-- The register form, F_ALU_R (R140). -/
def aluReg (code : Byte) (op : AluOp) (r : Reg8) (s : State) : Out :=
  withReg s r fun b => advance code 1 (aluWrite op b s)

/-- The (HL) form, F_ALU_R with sss = 6 (R140). -/
def aluAtHL (code : Byte) (op : AluOp) (s : State) : Out :=
  withByteAt s s.hl fun b s1 => advance code 1 (aluWrite op b s1)

/-- The immediate form, F_ALU_IMM8 (R140). -/
def aluImm (code : Byte) (op : AluOp) (n : Byte) (s : State) : Out :=
  advance code 2 (aluWrite op n s)

/-- ADD HL,rr: `b` is read before HL is written (R184). -/
def addToHL (code : Byte) (p : Pair) (s : State) : Out :=
  withPair s p fun b =>
    let r := flagADD16 s.params.add16Z s.hl b (flagZ s.f)
    intoPair s s .hl r.1 fun t => advance code 1 { t with f := packFlags r.2 }

/-- ADD A,B (42_alu.md R160). -/
def exec_add_a_b (s : State) : Out := aluReg 0x80 .add .b s

/-- ADD A,C (42_alu.md R160). -/
def exec_add_a_c (s : State) : Out := aluReg 0x81 .add .c s

/-- ADD A,D (42_alu.md R160). -/
def exec_add_a_d (s : State) : Out := aluReg 0x82 .add .d s

/-- ADD A,E (42_alu.md R160). -/
def exec_add_a_e (s : State) : Out := aluReg 0x83 .add .e s

/-- ADD A,H (42_alu.md R160). -/
def exec_add_a_h (s : State) : Out := aluReg 0x84 .add .h s

/-- ADD A,L (42_alu.md R160). -/
def exec_add_a_l (s : State) : Out := aluReg 0x85 .add .l s

/-- ADD A,(HL) (42_alu.md R161). -/
def exec_add_a_at_hl (s : State) : Out := aluAtHL 0x86 .add s

/-- ADD A,A (42_alu.md R160). -/
def exec_add_a_a (s : State) : Out := aluReg 0x87 .add .a s

/-- ADD A,n (42_alu.md R162). -/
def exec_add_a_n (n : Byte) (s : State) : Out := aluImm 0xC6 .add n s

/-- ADC A,B (42_alu.md R163). -/
def exec_adc_a_b (s : State) : Out := aluReg 0x88 .adc .b s

/-- ADC A,C (42_alu.md R163). -/
def exec_adc_a_c (s : State) : Out := aluReg 0x89 .adc .c s

/-- ADC A,D (42_alu.md R163). -/
def exec_adc_a_d (s : State) : Out := aluReg 0x8A .adc .d s

/-- ADC A,E (42_alu.md R163). -/
def exec_adc_a_e (s : State) : Out := aluReg 0x8B .adc .e s

/-- ADC A,H (42_alu.md R163). -/
def exec_adc_a_h (s : State) : Out := aluReg 0x8C .adc .h s

/-- ADC A,L (42_alu.md R163). -/
def exec_adc_a_l (s : State) : Out := aluReg 0x8D .adc .l s

/-- ADC A,(HL) (42_alu.md R164). -/
def exec_adc_a_at_hl (s : State) : Out := aluAtHL 0x8E .adc s

/-- ADC A,A (42_alu.md R163). -/
def exec_adc_a_a (s : State) : Out := aluReg 0x8F .adc .a s

/-- ADC A,n (42_alu.md R165). -/
def exec_adc_a_n (n : Byte) (s : State) : Out := aluImm 0xCE .adc n s

/-- SUB B (42_alu.md R166). -/
def exec_sub_b (s : State) : Out := aluReg 0x90 .sub .b s

/-- SUB C (42_alu.md R166). -/
def exec_sub_c (s : State) : Out := aluReg 0x91 .sub .c s

/-- SUB D (42_alu.md R166). -/
def exec_sub_d (s : State) : Out := aluReg 0x92 .sub .d s

/-- SUB E (42_alu.md R166). -/
def exec_sub_e (s : State) : Out := aluReg 0x93 .sub .e s

/-- SUB H (42_alu.md R166). -/
def exec_sub_h (s : State) : Out := aluReg 0x94 .sub .h s

/-- SUB L (42_alu.md R166). -/
def exec_sub_l (s : State) : Out := aluReg 0x95 .sub .l s

/-- SUB (HL) (42_alu.md R167). -/
def exec_sub_at_hl (s : State) : Out := aluAtHL 0x96 .sub s

/-- SUB A (42_alu.md R166). -/
def exec_sub_a (s : State) : Out := aluReg 0x97 .sub .a s

/-- SUB n (42_alu.md R168). -/
def exec_sub_n (n : Byte) (s : State) : Out := aluImm 0xD6 .sub n s

/-- SBC A,B (42_alu.md R169). -/
def exec_sbc_a_b (s : State) : Out := aluReg 0x98 .sbc .b s

/-- SBC A,C (42_alu.md R169). -/
def exec_sbc_a_c (s : State) : Out := aluReg 0x99 .sbc .c s

/-- SBC A,D (42_alu.md R169). -/
def exec_sbc_a_d (s : State) : Out := aluReg 0x9A .sbc .d s

/-- SBC A,E (42_alu.md R169). -/
def exec_sbc_a_e (s : State) : Out := aluReg 0x9B .sbc .e s

/-- SBC A,H (42_alu.md R169). -/
def exec_sbc_a_h (s : State) : Out := aluReg 0x9C .sbc .h s

/-- SBC A,L (42_alu.md R169). -/
def exec_sbc_a_l (s : State) : Out := aluReg 0x9D .sbc .l s

/-- SBC A,(HL) (42_alu.md R170). -/
def exec_sbc_a_at_hl (s : State) : Out := aluAtHL 0x9E .sbc s

/-- SBC A,A (42_alu.md R169). -/
def exec_sbc_a_a (s : State) : Out := aluReg 0x9F .sbc .a s

/-- SBC A,n (42_alu.md R171). -/
def exec_sbc_a_n (n : Byte) (s : State) : Out := aluImm 0xDE .sbc n s

/-- AND B (42_alu.md R172). -/
def exec_and_b (s : State) : Out := aluReg 0xA0 .and .b s

/-- AND C (42_alu.md R172). -/
def exec_and_c (s : State) : Out := aluReg 0xA1 .and .c s

/-- AND D (42_alu.md R172). -/
def exec_and_d (s : State) : Out := aluReg 0xA2 .and .d s

/-- AND E (42_alu.md R172). -/
def exec_and_e (s : State) : Out := aluReg 0xA3 .and .e s

/-- AND H (42_alu.md R172). -/
def exec_and_h (s : State) : Out := aluReg 0xA4 .and .h s

/-- AND L (42_alu.md R172). -/
def exec_and_l (s : State) : Out := aluReg 0xA5 .and .l s

/-- AND (HL) (42_alu.md R173). -/
def exec_and_at_hl (s : State) : Out := aluAtHL 0xA6 .and s

/-- AND A (42_alu.md R172). -/
def exec_and_a (s : State) : Out := aluReg 0xA7 .and .a s

/-- AND n (42_alu.md R174). -/
def exec_and_n (n : Byte) (s : State) : Out := aluImm 0xE6 .and n s

/-- XOR B (42_alu.md R175). -/
def exec_xor_b (s : State) : Out := aluReg 0xA8 .xor .b s

/-- XOR C (42_alu.md R175). -/
def exec_xor_c (s : State) : Out := aluReg 0xA9 .xor .c s

/-- XOR D (42_alu.md R175). -/
def exec_xor_d (s : State) : Out := aluReg 0xAA .xor .d s

/-- XOR E (42_alu.md R175). -/
def exec_xor_e (s : State) : Out := aluReg 0xAB .xor .e s

/-- XOR H (42_alu.md R175). -/
def exec_xor_h (s : State) : Out := aluReg 0xAC .xor .h s

/-- XOR L (42_alu.md R175). -/
def exec_xor_l (s : State) : Out := aluReg 0xAD .xor .l s

/-- XOR (HL) (42_alu.md R176). -/
def exec_xor_at_hl (s : State) : Out := aluAtHL 0xAE .xor s

/-- XOR A (42_alu.md R175). -/
def exec_xor_a (s : State) : Out := aluReg 0xAF .xor .a s

/-- XOR n (42_alu.md R177). -/
def exec_xor_n (n : Byte) (s : State) : Out := aluImm 0xEE .xor n s

/-- OR B (42_alu.md R178). -/
def exec_or_b (s : State) : Out := aluReg 0xB0 .or .b s

/-- OR C (42_alu.md R178). -/
def exec_or_c (s : State) : Out := aluReg 0xB1 .or .c s

/-- OR D (42_alu.md R178). -/
def exec_or_d (s : State) : Out := aluReg 0xB2 .or .d s

/-- OR E (42_alu.md R178). -/
def exec_or_e (s : State) : Out := aluReg 0xB3 .or .e s

/-- OR H (42_alu.md R178). -/
def exec_or_h (s : State) : Out := aluReg 0xB4 .or .h s

/-- OR L (42_alu.md R178). -/
def exec_or_l (s : State) : Out := aluReg 0xB5 .or .l s

/-- OR (HL) (42_alu.md R179). -/
def exec_or_at_hl (s : State) : Out := aluAtHL 0xB6 .or s

/-- OR A (42_alu.md R178). -/
def exec_or_a (s : State) : Out := aluReg 0xB7 .or .a s

/-- OR n (42_alu.md R180). -/
def exec_or_n (n : Byte) (s : State) : Out := aluImm 0xF6 .or n s

/-- CP B (42_alu.md R181). -/
def exec_cp_b (s : State) : Out := aluReg 0xB8 .cp .b s

/-- CP C (42_alu.md R181). -/
def exec_cp_c (s : State) : Out := aluReg 0xB9 .cp .c s

/-- CP D (42_alu.md R181). -/
def exec_cp_d (s : State) : Out := aluReg 0xBA .cp .d s

/-- CP E (42_alu.md R181). -/
def exec_cp_e (s : State) : Out := aluReg 0xBB .cp .e s

/-- CP H (42_alu.md R181). -/
def exec_cp_h (s : State) : Out := aluReg 0xBC .cp .h s

/-- CP L (42_alu.md R181). -/
def exec_cp_l (s : State) : Out := aluReg 0xBD .cp .l s

/-- CP (HL) (42_alu.md R182). -/
def exec_cp_at_hl (s : State) : Out := aluAtHL 0xBE .cp s

/-- CP A (42_alu.md R181). -/
def exec_cp_a (s : State) : Out := aluReg 0xBF .cp .a s

/-- CP n (42_alu.md R183). -/
def exec_cp_n (n : Byte) (s : State) : Out := aluImm 0xFE .cp n s

/-- ADD HL,BC (42_alu.md R184). -/
def exec_add_hl_bc (s : State) : Out := addToHL 0x09 .bc s

/-- ADD HL,DE (42_alu.md R184). -/
def exec_add_hl_de (s : State) : Out := addToHL 0x19 .de s

/-- ADD HL,HL (42_alu.md R184). -/
def exec_add_hl_hl (s : State) : Out := addToHL 0x29 .hl s

/-- ADD HL,SP (42_alu.md R184). -/
def exec_add_hl_sp (s : State) : Out := addToHL 0x39 .sp s

end Sys2Proof.Machine
end

