-- ==== Sys2Proof/Machine/Control.lean ====
section
/-! DEFINITION. CPU control (spec/45_cpu_control.md): NOP, DI, EI; and the unpopulated slot (60_exceptions.md R250). -/
namespace Sys2Proof.Machine

/-- NOP (45_cpu_control.md R230). -/
def exec_nop (s : State) : Out := advance 0x00 1 s

/-- DI (45_cpu_control.md R231). -/
def exec_di (s : State) : Out := advance 0xF3 1 { s with ime := false }

/-- EI (45_cpu_control.md R232). -/
def exec_ei (s : State) : Out := advance 0xFB 1 { s with ime := true }

/-- An unpopulated slot: the Undefined Opcode fault, which records the pc of the opcode and the opcode (60_exceptions.md R250). -/
def exec_undefined (opcode : Byte) (s : State) : Out := raise (.undefinedOpcode s.pc opcode) s

end Sys2Proof.Machine
end

