-- ==== Sys2Proof/Machine/IncDec.lean ====
section
/-! DEFINITION. Increment and decrement (spec/41_inc_dec.md): the 8-bit forms write Z, N and Hf and keep Cy, the 16-bit forms write no
flag (R120). -/
namespace Sys2Proof.Machine

/-- INC r: the register and F take the class INC's result and flags (R121). -/
def incReg (op : Byte) (dst : Reg8) (s : State) : Out :=
  withReg s dst fun v =>
    intoReg s s dst (flagINC v (flagC s.f)).1 fun t =>
      advance op 1 { t with f := packFlags (flagINC v (flagC s.f)).2 }

/-- DEC r (R123). -/
def decReg (op : Byte) (dst : Reg8) (s : State) : Out :=
  withReg s dst fun v =>
    intoReg s s dst (flagDEC v (flagC s.f)).1 fun t =>
      advance op 1 { t with f := packFlags (flagDEC v (flagC s.f)).2 }

/-- INC (HL): one read and then one write of the same address (R122). -/
def incAtHL (op : Byte) (s : State) : Out :=
  withByteAt s s.hl fun v s1 =>
    advance op 1 { writeByte s1 s.hl (flagINC v (flagC s.f)).1 with f := packFlags (flagINC v (flagC s.f)).2 }

/-- DEC (HL) (R124). -/
def decAtHL (op : Byte) (s : State) : Out :=
  withByteAt s s.hl fun v s1 =>
    advance op 1 { writeByte s1 s.hl (flagDEC v (flagC s.f)).1 with f := packFlags (flagDEC v (flagC s.f)).2 }

/-- `rp[p] <- trunc_16(rp[p] + 1)` (R125). -/
def incPairBy1 (op : Byte) (p : Pair) (s : State) : Out :=
  withPair s p fun v => intoPair s s p (v + 1) fun t => advance op 1 t

/-- `rp[p] <- trunc_16(rp[p] - 1)` (R126). -/
def decPairBy1 (op : Byte) (p : Pair) (s : State) : Out :=
  withPair s p fun v => intoPair s s p (v - 1) fun t => advance op 1 t

/-- INC B (41_inc_dec.md R121). -/
def exec_inc_b (s : State) : Out := incReg 0x04 .b s

/-- INC C (41_inc_dec.md R121). -/
def exec_inc_c (s : State) : Out := incReg 0x0C .c s

/-- INC D (41_inc_dec.md R121). -/
def exec_inc_d (s : State) : Out := incReg 0x14 .d s

/-- INC E (41_inc_dec.md R121). -/
def exec_inc_e (s : State) : Out := incReg 0x1C .e s

/-- INC H (41_inc_dec.md R121). -/
def exec_inc_h (s : State) : Out := incReg 0x24 .h s

/-- INC L (41_inc_dec.md R121). -/
def exec_inc_l (s : State) : Out := incReg 0x2C .l s

/-- INC A (41_inc_dec.md R121). -/
def exec_inc_a (s : State) : Out := incReg 0x3C .a s

/-- INC (HL) (41_inc_dec.md R122). -/
def exec_inc_at_hl (s : State) : Out := incAtHL 0x34 s

/-- DEC B (41_inc_dec.md R123). -/
def exec_dec_b (s : State) : Out := decReg 0x05 .b s

/-- DEC C (41_inc_dec.md R123). -/
def exec_dec_c (s : State) : Out := decReg 0x0D .c s

/-- DEC D (41_inc_dec.md R123). -/
def exec_dec_d (s : State) : Out := decReg 0x15 .d s

/-- DEC E (41_inc_dec.md R123). -/
def exec_dec_e (s : State) : Out := decReg 0x1D .e s

/-- DEC H (41_inc_dec.md R123). -/
def exec_dec_h (s : State) : Out := decReg 0x25 .h s

/-- DEC L (41_inc_dec.md R123). -/
def exec_dec_l (s : State) : Out := decReg 0x2D .l s

/-- DEC A (41_inc_dec.md R123). -/
def exec_dec_a (s : State) : Out := decReg 0x3D .a s

/-- DEC (HL) (41_inc_dec.md R124). -/
def exec_dec_at_hl (s : State) : Out := decAtHL 0x35 s

/-- INC BC (41_inc_dec.md R125). -/
def exec_inc_bc (s : State) : Out := incPairBy1 0x03 .bc s

/-- INC DE (41_inc_dec.md R125). -/
def exec_inc_de (s : State) : Out := incPairBy1 0x13 .de s

/-- INC HL (41_inc_dec.md R125). -/
def exec_inc_hl (s : State) : Out := incPairBy1 0x23 .hl s

/-- INC SP (41_inc_dec.md R125). -/
def exec_inc_sp (s : State) : Out := incPairBy1 0x33 .sp s

/-- DEC BC (41_inc_dec.md R126). -/
def exec_dec_bc (s : State) : Out := decPairBy1 0x0B .bc s

/-- DEC DE (41_inc_dec.md R126). -/
def exec_dec_de (s : State) : Out := decPairBy1 0x1B .de s

/-- DEC HL (41_inc_dec.md R126). -/
def exec_dec_hl (s : State) : Out := decPairBy1 0x2B .hl s

/-- DEC SP (41_inc_dec.md R126). -/
def exec_dec_sp (s : State) : Out := decPairBy1 0x3B .sp s

end Sys2Proof.Machine
end

