-- ==== Sys2Proof/Machine/Jumps.lean ====
section
/-! DEFINITION. Control transfer (spec/43_jumps.md): JR e, JR cc,e, JP nn. No jump writes a flag (R190), and there is no delay slot
(R194). -/
namespace Sys2Proof.Machine

/-- JR cc,e: taken, to the relative target at cost 3, else past the displacement at cost 2 (R190, R192). The two costs are the
rule's own numbers, not entries of `CYCLES` (log 24). -/
def jumpIf (cc : Cond) (e : Byte) (s : State) : Out :=
  if condHolds cc s.f then finish (relTarget s.pc e) jrTakenCost s
  else finish (s.pc + 2) jrNotTakenCost s

/-- JR e (43_jumps.md R191). -/
def exec_jr_e (e : Byte) (s : State) : Out := finish (relTarget s.pc e) (cyclesOf s.params 0x18) s

/-- JR NZ,e (43_jumps.md R192). -/
def exec_jr_nz_e (e : Byte) (s : State) : Out := jumpIf .nz e s

/-- JR Z,e (43_jumps.md R192). -/
def exec_jr_z_e (e : Byte) (s : State) : Out := jumpIf .z e s

/-- JR NC,e (43_jumps.md R192). -/
def exec_jr_nc_e (e : Byte) (s : State) : Out := jumpIf .nc e s

/-- JR C,e (43_jumps.md R192). -/
def exec_jr_c_e (e : Byte) (s : State) : Out := jumpIf .c e s

/-- JP nn (43_jumps.md R193). -/
def exec_jp_nn (nn : Word) (s : State) : Out := finish nn (cyclesOf s.params 0xC3) s

end Sys2Proof.Machine
end

