-- ==== Sys2Proof/Machine/MemoryLoads.lean ====
section
/-! DEFINITION. Memory loads and stores of the accumulator (spec/44_memory_loads.md). None writes F; HL changes in the HL+ and HL-
forms only (R209). -/
namespace Sys2Proof.Machine

/-- `MemWrite(addr, 1, A)` and on by `len` bytes (R210, R211, R218, R220). -/
def storeA (op : Byte) (len : Nat) (addr : Word) (s : State) : Out :=
  advance op len (writeByte s addr s.a)

/-- `A <- MemRead(addr, 1)` and on by `len` bytes (R214, R215, R219, R221). -/
def loadA (op : Byte) (len : Nat) (addr : Word) (s : State) : Out :=
  withByteAt s addr fun v s1 => intoReg s s1 .a v fun t => advance op len t

/-- `MemWrite(HL, 1, A); HL <- next` (R212, R213). -/
def storeAThenHL (op : Byte) (next : Word) (s : State) : Out :=
  intoPair s (writeByte s s.hl s.a) .hl next fun t => advance op 1 t

/-- `A <- MemRead(HL, 1); HL <- next` (R216, R217). -/
def loadAThenHL (op : Byte) (next : Word) (s : State) : Out :=
  withByteAt s s.hl fun v s1 =>
    intoReg s s1 .a v fun s2 => intoPair s s2 .hl next fun t => advance op 1 t

/-- LD (BC),A (44_memory_loads.md R210). -/
def exec_ld_at_bc_a (s : State) : Out := storeA 0x02 1 s.bc s

/-- LD (DE),A (44_memory_loads.md R211). -/
def exec_ld_at_de_a (s : State) : Out := storeA 0x12 1 s.de s

/-- LD (HL+),A (44_memory_loads.md R212). -/
def exec_ld_at_hli_a (s : State) : Out := storeAThenHL 0x22 (afterHLI s.hl) s

/-- LD (HL-),A (44_memory_loads.md R213). -/
def exec_ld_at_hld_a (s : State) : Out := storeAThenHL 0x32 (afterHLD s.hl) s

/-- LD A,(BC) (44_memory_loads.md R214). -/
def exec_ld_a_at_bc (s : State) : Out := loadA 0x0A 1 s.bc s

/-- LD A,(DE) (44_memory_loads.md R215). -/
def exec_ld_a_at_de (s : State) : Out := loadA 0x1A 1 s.de s

/-- LD A,(HL+) (44_memory_loads.md R216). -/
def exec_ld_a_at_hli (s : State) : Out := loadAThenHL 0x2A (afterHLI s.hl) s

/-- LD A,(HL-) (44_memory_loads.md R217). -/
def exec_ld_a_at_hld (s : State) : Out := loadAThenHL 0x3A (afterHLD s.hl) s

/-- LDH (n),A (44_memory_loads.md R218). -/
def exec_ldh_at_n_a (n : Byte) (s : State) : Out := storeA 0xE0 2 (highPage n) s

/-- LDH A,(n) (44_memory_loads.md R219). -/
def exec_ldh_a_at_n (n : Byte) (s : State) : Out := loadA 0xF0 2 (highPage n) s

/-- LD (nn),A (44_memory_loads.md R220). -/
def exec_ld_at_nn_a (nn : Word) (s : State) : Out := storeA 0xEA 3 nn s

/-- LD A,(nn) (44_memory_loads.md R221). -/
def exec_ld_a_at_nn (nn : Word) (s : State) : Out := loadA 0xFA 3 nn s

end Sys2Proof.Machine
end

