-- ==== Sys2Proof/Machine/RegisterLoads.lean ====
section
/-! DEFINITION. Register loads (spec/40_register_loads.md): LD r,r'; LD r,(HL); LD (HL),r; LD r,n; LD (HL),n; LD rr,nn. None writes F
(R100). `op` is the instruction's opcode, which selects its nominal cost. -/
namespace Sys2Proof.Machine

/-- `v <- r8[s]; r8[d] <- v` (R101). -/
def moveReg (op : Byte) (dst src : Reg8) (s : State) : Out :=
  withReg s src fun v => intoReg s s dst v fun t => advance op 1 t

/-- `v <- MemRead(HL, 1); r8[d] <- v` (R102). -/
def loadRegFromHL (op : Byte) (dst : Reg8) (s : State) : Out :=
  withByteAt s s.hl fun v s1 => intoReg s s1 dst v fun t => advance op 1 t

/-- `v <- r8[s]; MemWrite(HL, 1, v)` (R103). -/
def storeRegToHL (op : Byte) (src : Reg8) (s : State) : Out :=
  withReg s src fun v => advance op 1 (writeByte s s.hl v)

/-- `r8[d] <- n` (R104). -/
def loadRegImm (op : Byte) (dst : Reg8) (n : Byte) (s : State) : Out :=
  intoReg s s dst n fun t => advance op 2 t

/-- `MemWrite(HL, 1, n)` (R105). -/
def storeImmToHL (op : Byte) (n : Byte) (s : State) : Out :=
  advance op 2 (writeByte s s.hl n)

/-- `rp[p] <- nn` (R106). -/
def loadPairImm (op : Byte) (p : Pair) (nn : Word) (s : State) : Out :=
  intoPair s s p nn fun t => advance op 3 t

/-- LD B,B (40_register_loads.md R101). -/
def exec_ld_b_b (s : State) : Out := moveReg 0x40 .b .b s

/-- LD B,C (40_register_loads.md R101). -/
def exec_ld_b_c (s : State) : Out := moveReg 0x41 .b .c s

/-- LD B,D (40_register_loads.md R101). -/
def exec_ld_b_d (s : State) : Out := moveReg 0x42 .b .d s

/-- LD B,E (40_register_loads.md R101). -/
def exec_ld_b_e (s : State) : Out := moveReg 0x43 .b .e s

/-- LD B,H (40_register_loads.md R101). -/
def exec_ld_b_h (s : State) : Out := moveReg 0x44 .b .h s

/-- LD B,L (40_register_loads.md R101). -/
def exec_ld_b_l (s : State) : Out := moveReg 0x45 .b .l s

/-- LD B,A (40_register_loads.md R101). -/
def exec_ld_b_a (s : State) : Out := moveReg 0x47 .b .a s

/-- LD C,B (40_register_loads.md R101). -/
def exec_ld_c_b (s : State) : Out := moveReg 0x48 .c .b s

/-- LD C,C (40_register_loads.md R101). -/
def exec_ld_c_c (s : State) : Out := moveReg 0x49 .c .c s

/-- LD C,D (40_register_loads.md R101). -/
def exec_ld_c_d (s : State) : Out := moveReg 0x4A .c .d s

/-- LD C,E (40_register_loads.md R101). -/
def exec_ld_c_e (s : State) : Out := moveReg 0x4B .c .e s

/-- LD C,H (40_register_loads.md R101). -/
def exec_ld_c_h (s : State) : Out := moveReg 0x4C .c .h s

/-- LD C,L (40_register_loads.md R101). -/
def exec_ld_c_l (s : State) : Out := moveReg 0x4D .c .l s

/-- LD C,A (40_register_loads.md R101). -/
def exec_ld_c_a (s : State) : Out := moveReg 0x4F .c .a s

/-- LD D,B (40_register_loads.md R101). -/
def exec_ld_d_b (s : State) : Out := moveReg 0x50 .d .b s

/-- LD D,C (40_register_loads.md R101). -/
def exec_ld_d_c (s : State) : Out := moveReg 0x51 .d .c s

/-- LD D,D (40_register_loads.md R101). -/
def exec_ld_d_d (s : State) : Out := moveReg 0x52 .d .d s

/-- LD D,E (40_register_loads.md R101). -/
def exec_ld_d_e (s : State) : Out := moveReg 0x53 .d .e s

/-- LD D,H (40_register_loads.md R101). -/
def exec_ld_d_h (s : State) : Out := moveReg 0x54 .d .h s

/-- LD D,L (40_register_loads.md R101). -/
def exec_ld_d_l (s : State) : Out := moveReg 0x55 .d .l s

/-- LD D,A (40_register_loads.md R101). -/
def exec_ld_d_a (s : State) : Out := moveReg 0x57 .d .a s

/-- LD E,B (40_register_loads.md R101). -/
def exec_ld_e_b (s : State) : Out := moveReg 0x58 .e .b s

/-- LD E,C (40_register_loads.md R101). -/
def exec_ld_e_c (s : State) : Out := moveReg 0x59 .e .c s

/-- LD E,D (40_register_loads.md R101). -/
def exec_ld_e_d (s : State) : Out := moveReg 0x5A .e .d s

/-- LD E,E (40_register_loads.md R101). -/
def exec_ld_e_e (s : State) : Out := moveReg 0x5B .e .e s

/-- LD E,H (40_register_loads.md R101). -/
def exec_ld_e_h (s : State) : Out := moveReg 0x5C .e .h s

/-- LD E,L (40_register_loads.md R101). -/
def exec_ld_e_l (s : State) : Out := moveReg 0x5D .e .l s

/-- LD E,A (40_register_loads.md R101). -/
def exec_ld_e_a (s : State) : Out := moveReg 0x5F .e .a s

/-- LD H,B (40_register_loads.md R101). -/
def exec_ld_h_b (s : State) : Out := moveReg 0x60 .h .b s

/-- LD H,C (40_register_loads.md R101). -/
def exec_ld_h_c (s : State) : Out := moveReg 0x61 .h .c s

/-- LD H,D (40_register_loads.md R101). -/
def exec_ld_h_d (s : State) : Out := moveReg 0x62 .h .d s

/-- LD H,E (40_register_loads.md R101). -/
def exec_ld_h_e (s : State) : Out := moveReg 0x63 .h .e s

/-- LD H,H (40_register_loads.md R101). -/
def exec_ld_h_h (s : State) : Out := moveReg 0x64 .h .h s

/-- LD H,L (40_register_loads.md R101). -/
def exec_ld_h_l (s : State) : Out := moveReg 0x65 .h .l s

/-- LD H,A (40_register_loads.md R101). -/
def exec_ld_h_a (s : State) : Out := moveReg 0x67 .h .a s

/-- LD L,B (40_register_loads.md R101). -/
def exec_ld_l_b (s : State) : Out := moveReg 0x68 .l .b s

/-- LD L,C (40_register_loads.md R101). -/
def exec_ld_l_c (s : State) : Out := moveReg 0x69 .l .c s

/-- LD L,D (40_register_loads.md R101). -/
def exec_ld_l_d (s : State) : Out := moveReg 0x6A .l .d s

/-- LD L,E (40_register_loads.md R101). -/
def exec_ld_l_e (s : State) : Out := moveReg 0x6B .l .e s

/-- LD L,H (40_register_loads.md R101). -/
def exec_ld_l_h (s : State) : Out := moveReg 0x6C .l .h s

/-- LD L,L (40_register_loads.md R101). -/
def exec_ld_l_l (s : State) : Out := moveReg 0x6D .l .l s

/-- LD L,A (40_register_loads.md R101). -/
def exec_ld_l_a (s : State) : Out := moveReg 0x6F .l .a s

/-- LD A,B (40_register_loads.md R101). -/
def exec_ld_a_b (s : State) : Out := moveReg 0x78 .a .b s

/-- LD A,C (40_register_loads.md R101). -/
def exec_ld_a_c (s : State) : Out := moveReg 0x79 .a .c s

/-- LD A,D (40_register_loads.md R101). -/
def exec_ld_a_d (s : State) : Out := moveReg 0x7A .a .d s

/-- LD A,E (40_register_loads.md R101). -/
def exec_ld_a_e (s : State) : Out := moveReg 0x7B .a .e s

/-- LD A,H (40_register_loads.md R101). -/
def exec_ld_a_h (s : State) : Out := moveReg 0x7C .a .h s

/-- LD A,L (40_register_loads.md R101). -/
def exec_ld_a_l (s : State) : Out := moveReg 0x7D .a .l s

/-- LD A,A (40_register_loads.md R101). -/
def exec_ld_a_a (s : State) : Out := moveReg 0x7F .a .a s

/-- LD B,(HL) (40_register_loads.md R102). -/
def exec_ld_b_at_hl (s : State) : Out := loadRegFromHL 0x46 .b s

/-- LD C,(HL) (40_register_loads.md R102). -/
def exec_ld_c_at_hl (s : State) : Out := loadRegFromHL 0x4E .c s

/-- LD D,(HL) (40_register_loads.md R102). -/
def exec_ld_d_at_hl (s : State) : Out := loadRegFromHL 0x56 .d s

/-- LD E,(HL) (40_register_loads.md R102). -/
def exec_ld_e_at_hl (s : State) : Out := loadRegFromHL 0x5E .e s

/-- LD H,(HL) (40_register_loads.md R102). -/
def exec_ld_h_at_hl (s : State) : Out := loadRegFromHL 0x66 .h s

/-- LD L,(HL) (40_register_loads.md R102). -/
def exec_ld_l_at_hl (s : State) : Out := loadRegFromHL 0x6E .l s

/-- LD A,(HL) (40_register_loads.md R102). -/
def exec_ld_a_at_hl (s : State) : Out := loadRegFromHL 0x7E .a s

/-- LD (HL),B (40_register_loads.md R103). -/
def exec_ld_at_hl_b (s : State) : Out := storeRegToHL 0x70 .b s

/-- LD (HL),C (40_register_loads.md R103). -/
def exec_ld_at_hl_c (s : State) : Out := storeRegToHL 0x71 .c s

/-- LD (HL),D (40_register_loads.md R103). -/
def exec_ld_at_hl_d (s : State) : Out := storeRegToHL 0x72 .d s

/-- LD (HL),E (40_register_loads.md R103). -/
def exec_ld_at_hl_e (s : State) : Out := storeRegToHL 0x73 .e s

/-- LD (HL),H (40_register_loads.md R103). -/
def exec_ld_at_hl_h (s : State) : Out := storeRegToHL 0x74 .h s

/-- LD (HL),L (40_register_loads.md R103). -/
def exec_ld_at_hl_l (s : State) : Out := storeRegToHL 0x75 .l s

/-- LD (HL),A (40_register_loads.md R103). -/
def exec_ld_at_hl_a (s : State) : Out := storeRegToHL 0x77 .a s

/-- LD B,n (40_register_loads.md R104). -/
def exec_ld_b_n (n : Byte) (s : State) : Out := loadRegImm 0x06 .b n s

/-- LD C,n (40_register_loads.md R104). -/
def exec_ld_c_n (n : Byte) (s : State) : Out := loadRegImm 0x0E .c n s

/-- LD D,n (40_register_loads.md R104). -/
def exec_ld_d_n (n : Byte) (s : State) : Out := loadRegImm 0x16 .d n s

/-- LD E,n (40_register_loads.md R104). -/
def exec_ld_e_n (n : Byte) (s : State) : Out := loadRegImm 0x1E .e n s

/-- LD H,n (40_register_loads.md R104). -/
def exec_ld_h_n (n : Byte) (s : State) : Out := loadRegImm 0x26 .h n s

/-- LD L,n (40_register_loads.md R104). -/
def exec_ld_l_n (n : Byte) (s : State) : Out := loadRegImm 0x2E .l n s

/-- LD A,n (40_register_loads.md R104). -/
def exec_ld_a_n (n : Byte) (s : State) : Out := loadRegImm 0x3E .a n s

/-- LD (HL),n (40_register_loads.md R105). -/
def exec_ld_at_hl_n (n : Byte) (s : State) : Out := storeImmToHL 0x36 n s

/-- LD BC,nn (40_register_loads.md R106). -/
def exec_ld_bc_nn (nn : Word) (s : State) : Out := loadPairImm 0x01 .bc nn s

/-- LD DE,nn (40_register_loads.md R106). -/
def exec_ld_de_nn (nn : Word) (s : State) : Out := loadPairImm 0x11 .de nn s

/-- LD HL,nn (40_register_loads.md R106). -/
def exec_ld_hl_nn (nn : Word) (s : State) : Out := loadPairImm 0x21 .hl nn s

/-- LD SP,nn (40_register_loads.md R106). -/
def exec_ld_sp_nn (nn : Word) (s : State) : Out := loadPairImm 0x31 .sp nn s

end Sys2Proof.Machine
end

