-- ==== Sys2Proof/Machine/Fetch.lean ====
section
/-! DEFINITION. Fetching an instruction (spec/60_exceptions.md R255, 20_memory.md R57): the opcode byte, the lookup in the dispatch
table, then the operand byte or the operand word. -/
namespace Sys2Proof.Machine

/-- The slot that POPULATED gives the handler of: an opcode left out of POPULATED has none (30_encoding.md R80). -/
def slotOf (p : Params) (op : Byte) : Slot :=
  if p.depopulated.contains op then .unpopulated else slot op

/-- Fetches the instruction at the pc: the instruction, and the state after the fetch's accesses. An unpopulated slot is fetched
alone, as `undefined` with its opcode (R250). -/
def fetchInstr (s : State) : Instr × State :=
  let (op, s1) := readByte s s.pc
  match slotOf s.params op with
  | .unpopulated => (.undefined op, s1)
  | .alone i => (i, s1)
  | .withByte f => let (n, s2) := readByte s1 (s.pc + 1); (f n, s2)
  | .withWord f => let (nn, s2) := readWord s1 (s.pc + 1); (f nn, s2)

/-- Stores bytes from an address upwards, wrapping mod 2^16; not an access of the core, so nothing is recorded. -/
def placeBytes (m : Memory) (a : Word) : List Byte → Memory
  | [] => m
  | v :: rest => placeBytes (Memory.write m a.toNat v) (a + 1) rest

/-- The state with the instruction of a table word placed where the next step fetches, under flat RAM (log 22). -/
def placeTableWord (s : State) (nbits w : Nat) : State :=
  { s with mem := placeBytes s.mem s.pc (tableBytes nbits w), params := { s.params with memModel := .flatRam } }

end Sys2Proof.Machine
end

