-- ==== Sys2Proof/Machine/Step.lean ====
section
/-! DEFINITION. The step (spec/60_exceptions.md R255). -/
namespace Sys2Proof.Machine

/-- One step: defined only while Running (R255, R256), and refused in a state whose F no rule can make
(93_implementation_defined.md U20); it fetches the instruction at the pc and executes it. -/
def step (s : State) : Host.Outcome State Fault Refusal :=
  match s.run with
  | .faulted => .refused .noStepFromFaulted
  | .running =>
    if flagsOk s.f then exec (fetchInstr s).1 (fetchInstr s).2
    else .refused .flagsLowNibble

/-- The state with the instruction of a table word stored where the next step fetches it. -/
def State.withFetchWord (s : State) (nbits w : Nat) : State := placeTableWord s nbits w

end Sys2Proof.Machine
end

