-- ==== Sys2Proof/Machine/Boundary.lean ====
section
/-! DEFINITION. The host's and the interrupt controller's side (spec/60_exceptions.md R257 to R264, 70_reset_and_hazards.md R280): what
happens between two steps, and never during one (R260). `step` does none of it. -/
namespace Sys2Proof.Machine

/-- The startup entry point: refused for BOOT_REGS whose F has a non-zero low nibble, else the boot state. `doubleSpeed` selects host
constants only (70_reset_and_hazards.md R280, 10_state.md R37). -/
def startup (r : BootRegs) (p : Params) (doubleSpeed : Bool) (m : Memory) : Out :=
  if flagsOk r.f then .next (State.boot r { p with doubleSpeed := doubleSpeed } m)
  else .refused .bootFlagsLowNibble

/-- The actions that other agents may take at an instruction boundary. -/
inductive BoundaryAction where
  /-- the controller clears IME on dispatch or restores it on return (R262) -/
  | setIME (v : Bool)
  /-- the host writes IE (R261) -/
  | setIE (v : Byte)
  /-- the host writes IF (R261) -/
  | setIF (v : Byte)
  deriving DecidableEq, Repr

/-- One boundary action: it writes its own register and nothing else, and none leaves Faulted (R256, R260 to R262). -/
def boundary (x : BoundaryAction) (s : State) : Out :=
  match s.run with
  | .faulted => .refused .noStepFromFaulted
  | .running =>
    if flagsOk s.f then
      match x with
      | .setIME v => .next { s with ime := v }
      | .setIE v => .next { s with ie := v }
      | .setIF v => .next { s with ifr := v }
    else .refused .flagsLowNibble

/-- The controller's read of IE and IF (R261). -/
def interruptRegisters (s : State) : Byte × Byte := (s.ie, s.ifr)

/-- What the state dump shows (R264). -/
structure Dump where
  (a f b c d e h l : Byte)
  (sp pc : Word)
  (ime : Bool)
  (cyclesTotal : Nat)
  (run : RunState)
  (fault : Option Fault)
  deriving DecidableEq, Repr

/-- The state dump: an observation (R264). -/
def dump (s : State) : Dump where
  a := s.a
  f := s.f
  b := s.b
  c := s.c
  d := s.d
  e := s.e
  h := s.h
  l := s.l
  sp := s.sp
  pc := s.pc
  ime := s.ime
  cyclesTotal := s.cyclesTotal
  run := s.run
  fault := s.fault

/-- "execute N more steps": stops early where a step is refused (R257). -/
def runSteps : Nat → State → Out
  | 0, s => .next s
  | n + 1, s =>
    match step s with
    | .next t => runSteps n t
    | .fault r => .fault r
    | .refused r => .refused r

/-- "run until told to stop", as a host's predicate looked at on every boundary, for at most `fuel` steps (R257). -/
def runUntil (stop : State → Bool) : Nat → State → Out
  | 0, s => .next s
  | n + 1, s =>
    if stop s then .next s
    else
      match step s with
      | .next t => runUntil stop n t
      | .fault r => .fault r
      | .refused r => .refused r

end Sys2Proof.Machine
end

