-- ==== Sys2Proof/Safety.lean ====
section
/-! DEFINITION. What claims are stated in: the invariant of the state, a failed run, the sets of instructions that the rules name
together, and the shape of an instruction that is no jump. No meaning uses anything of this file. -/
namespace Sys2Proof

/-! ### What the rules say instructions write and access -/

/-- The 8-bit registers an instruction writes (spec/10_state.md R36). -/
def Instr.destRegs : Instr → List Reg8
  | .ld_bc_nn _ | .inc_bc | .dec_bc => [.b, .c]
  | .inc_b | .dec_b | .ld_b_n _ | .ld_b_b | .ld_b_c | .ld_b_d | .ld_b_e | .ld_b_h
  | .ld_b_l | .ld_b_at_hl | .ld_b_a => [.b]
  | .add_hl_bc | .add_hl_de | .ld_hl_nn _ | .ld_at_hli_a | .inc_hl | .add_hl_hl | .dec_hl | .ld_at_hld_a
  | .add_hl_sp => [.h, .l]
  | .ld_a_at_bc | .ld_a_at_de | .inc_a | .dec_a | .ld_a_n _ | .ld_a_b | .ld_a_c | .ld_a_d
  | .ld_a_e | .ld_a_h | .ld_a_l | .ld_a_at_hl | .ld_a_a | .add_a_b | .add_a_c | .add_a_d
  | .add_a_e | .add_a_h | .add_a_l | .add_a_at_hl | .add_a_a | .adc_a_b | .adc_a_c | .adc_a_d
  | .adc_a_e | .adc_a_h | .adc_a_l | .adc_a_at_hl | .adc_a_a | .sub_b | .sub_c | .sub_d
  | .sub_e | .sub_h | .sub_l | .sub_at_hl | .sub_a | .sbc_a_b | .sbc_a_c | .sbc_a_d
  | .sbc_a_e | .sbc_a_h | .sbc_a_l | .sbc_a_at_hl | .sbc_a_a | .and_b | .and_c | .and_d
  | .and_e | .and_h | .and_l | .and_at_hl | .and_a | .xor_b | .xor_c | .xor_d
  | .xor_e | .xor_h | .xor_l | .xor_at_hl | .xor_a | .or_b | .or_c | .or_d
  | .or_e | .or_h | .or_l | .or_at_hl | .or_a | .add_a_n _ | .adc_a_n _ | .sub_n _
  | .sbc_a_n _ | .and_n _ | .xor_n _ | .ldh_a_at_n _ | .or_n _ | .ld_a_at_nn _ => [.a]
  | .inc_c | .dec_c | .ld_c_n _ | .ld_c_b | .ld_c_c | .ld_c_d | .ld_c_e | .ld_c_h
  | .ld_c_l | .ld_c_at_hl | .ld_c_a => [.c]
  | .ld_de_nn _ | .inc_de | .dec_de => [.d, .e]
  | .inc_d | .dec_d | .ld_d_n _ | .ld_d_b | .ld_d_c | .ld_d_d | .ld_d_e | .ld_d_h
  | .ld_d_l | .ld_d_at_hl | .ld_d_a => [.d]
  | .inc_e | .dec_e | .ld_e_n _ | .ld_e_b | .ld_e_c | .ld_e_d | .ld_e_e | .ld_e_h
  | .ld_e_l | .ld_e_at_hl | .ld_e_a => [.e]
  | .inc_h | .dec_h | .ld_h_n _ | .ld_h_b | .ld_h_c | .ld_h_d | .ld_h_e | .ld_h_h
  | .ld_h_l | .ld_h_at_hl | .ld_h_a => [.h]
  | .ld_a_at_hli | .ld_a_at_hld => [.a, .h, .l]
  | .inc_l | .dec_l | .ld_l_n _ | .ld_l_b | .ld_l_c | .ld_l_d | .ld_l_e | .ld_l_h
  | .ld_l_l | .ld_l_at_hl | .ld_l_a => [.l]
  | _ => []

/-- The instructions that write flags (10_state.md R29). -/
def Instr.writesFlags : Instr → Bool
  | .inc_b | .dec_b | .add_hl_bc | .inc_c | .dec_c | .inc_d | .dec_d | .add_hl_de
  | .inc_e | .dec_e | .inc_h | .dec_h | .add_hl_hl | .inc_l | .dec_l | .inc_at_hl
  | .dec_at_hl | .add_hl_sp | .inc_a | .dec_a | .add_a_b | .add_a_c | .add_a_d | .add_a_e
  | .add_a_h | .add_a_l | .add_a_at_hl | .add_a_a | .adc_a_b | .adc_a_c | .adc_a_d | .adc_a_e
  | .adc_a_h | .adc_a_l | .adc_a_at_hl | .adc_a_a | .sub_b | .sub_c | .sub_d | .sub_e
  | .sub_h | .sub_l | .sub_at_hl | .sub_a | .sbc_a_b | .sbc_a_c | .sbc_a_d | .sbc_a_e
  | .sbc_a_h | .sbc_a_l | .sbc_a_at_hl | .sbc_a_a | .and_b | .and_c | .and_d | .and_e
  | .and_h | .and_l | .and_at_hl | .and_a | .xor_b | .xor_c | .xor_d | .xor_e
  | .xor_h | .xor_l | .xor_at_hl | .xor_a | .or_b | .or_c | .or_d | .or_e
  | .or_h | .or_l | .or_at_hl | .or_a | .cp_b | .cp_c | .cp_d | .cp_e
  | .cp_h | .cp_l | .cp_at_hl | .cp_a | .add_a_n _ | .adc_a_n _ | .sub_n _ | .sbc_a_n _
  | .and_n _ | .xor_n _ | .or_n _ | .cp_n _ => true
  | _ => false

/-- The 8-bit increments and decrements, which keep the carry flag (41_inc_dec.md R120). -/
def Instr.keepsCarry : Instr → Bool
  | .inc_b | .dec_b | .inc_c | .dec_c | .inc_d | .dec_d | .inc_e | .dec_e
  | .inc_h | .dec_h | .inc_l | .dec_l | .inc_at_hl | .dec_at_hl | .inc_a | .dec_a => true
  | _ => false

/-- The instructions that write SP (10_state.md R30). -/
def Instr.writesSP : Instr → Bool
  | .ld_sp_nn _ | .inc_sp | .dec_sp => true
  | _ => false

/-- The instructions that write IME (10_state.md R32). -/
def Instr.writesIME : Instr → Bool
  | .di | .ei => true
  | _ => false

/-- The unpopulated slot. -/
def Instr.isUndefined : Instr → Bool
  | .undefined _ => true
  | _ => false

namespace Machine

/-- The address an instruction stores its one byte to, computed as its meaning computes it (20_memory.md R58). -/
def storeAddr (i : Instr) (s : State) : Option Word :=
  match i with
  | .ld_at_bc_a => some s.bc
  | .ld_at_de_a => some s.de
  | .ld_at_hli_a | .ld_at_hld_a | .inc_at_hl | .dec_at_hl | .ld_at_hl_n _ | .ld_at_hl_b | .ld_at_hl_c | .ld_at_hl_d
  | .ld_at_hl_e | .ld_at_hl_h | .ld_at_hl_l | .ld_at_hl_a => some s.hl
  | .ldh_at_n_a n => some (highPage n)
  | .ld_at_nn_a nn => some nn
  | _ => none

/-- The address an instruction reads its one data byte from (20_memory.md R58). -/
def loadAddr (i : Instr) (s : State) : Option Word :=
  match i with
  | .ld_a_at_bc => some s.bc
  | .ld_a_at_de => some s.de
  | .ld_a_at_hli | .inc_at_hl | .dec_at_hl | .ld_a_at_hld | .ld_b_at_hl | .ld_c_at_hl | .ld_d_at_hl | .ld_e_at_hl
  | .ld_h_at_hl | .ld_l_at_hl | .ld_a_at_hl | .add_a_at_hl | .adc_a_at_hl | .sub_at_hl | .sbc_a_at_hl | .and_at_hl
  | .xor_at_hl | .or_at_hl | .cp_at_hl => some s.hl
  | .ldh_a_at_n n => some (highPage n)
  | .ld_a_at_nn nn => some nn
  | _ => none

/-- The nominal cost that an instruction reports (70_reset_and_hazards.md R288, R290; 43_jumps.md R192). -/
def nominalCost (i : Instr) (s : State) : Nat :=
  match i with
  | .jr_nz_e _ => if condHolds .nz s.f then 3 else 2
  | .jr_z_e _ => if condHolds .z s.f then 3 else 2
  | .jr_nc_e _ => if condHolds .nc s.f then 3 else 2
  | .jr_c_e _ => if condHolds .c s.f then 3 else 2
  | i => cyclesOf s.params i.opcode

/-- The nominal costs of the instructions that a run of at most n steps executes, first to last; a faulting step executes none
(70_reset_and_hazards.md R289, 60_exceptions.md R250). -/
def executedCosts : Nat → State → List Nat
  | 0, _ => []
  | n + 1, s =>
    match step s with
    | .next t =>
      match t.run with
      | .running => nominalCost (fetchInstr s).1 (fetchInstr s).2 :: executedCosts n t
      | .faulted => []
    | .fault _ => []
    | .refused _ => []

/-- The end of the instruction i of `len` bytes, no jump: the pc moves past it and its cost plus one is added (00_scope.md R15,
70_reset_and_hazards.md R289). -/
def State.past (s : State) (i : Instr) (len : Nat) : State :=
  { s with pc := s.pc + BitVec.ofNat 16 len, cyclesTotal := addCycles s.params s.cyclesTotal (cyclesOf s.params i.opcode) }

/-- The accesses that the fetch of an instruction of `len` bytes makes, newest first (20_memory.md R57). -/
def fetchAccesses (s : State) (len : Nat) : List Access :=
  let opcodeRead := Access.readByte s.pc (busAnswer s s.pc)
  let s1 := s.record opcodeRead
  match len with
  | 2 => [.readByte (s.pc + 1) (busAnswer s1 (s.pc + 1)), opcodeRead]
  | 3 => [.readWord (s.pc + 1) (busAnswerWord s1 (s.pc + 1)), opcodeRead]
  | _ => [opcodeRead]

/-! ### Safety -/

/-- The invariant of the machine: F's low nibble is zero (10_state.md R27, R28), a fault record is held exactly in Faulted (R35), and
flat RAM is in canonical form. -/
def State.Inv (s : State) : Prop :=
  flagsOk s.f = true ∧ (s.run = .running ↔ s.fault = none) ∧ Memory.wf s.mem = true

/-- A run that reaches Faulted has failed (60_exceptions.md R256). -/
def State.Failed (s : State) : Prop := s.run = .faulted

/-- The states that steps and boundary actions reach from a state (60_exceptions.md R257, R260). -/
inductive Reaches : State → State → Prop where
  | here (s : State) : Reaches s s
  | byStep {s t u : State} : Reaches s t → step t = .next u → Reaches s u
  | byBoundary {s t u : State} (x : BoundaryAction) : Reaches s t → boundary x t = .next u → Reaches s u

/-- A state from which no run fails. -/
def State.Safe (s : State) : Prop := ∀ t, Reaches s t → ¬ t.Failed

end Machine

end Sys2Proof
end

