-- ==== Sys2Proof/Certificates/Slice0/Obligations.lean ====
section
/-! DEFINITION. The statements for the provers. Each docstring names the rules of spec/ it formalises. -/

open Sys2Proof Sys2Proof.Machine

/-- Decoding the encoding of any well-formed instruction gives that instruction back (30_encoding.md R71, 30_encoding.md R72,
30_encoding.md R73, 30_encoding.md R74, 30_encoding.md R75, 30_encoding.md R76, 30_encoding.md R77, 30_encoding.md R85). For
every well-formed instruction, with every operand value, and any bytes after it, decode (encode i ++ rest) is i with those
bytes left over. The encoder follows the formats and fields of R71 to R76, the decoder the opcode map of R77. Opcode numbers
are from general knowledge, by the spec's own mark (log 7). -/
def Obligations.DecodeEncodeRoundTrip : Prop :=
  ∀ (i : Instr) (rest : List Byte), i.wellFormed = true → decode (encode i ++ rest) = .ok (i, rest)

/-- Whatever the decoder reads is well-formed and encodes back to the bytes it was read from (30_encoding.md R80, 30_encoding.md
R84, 30_encoding.md R85). If decode answers an instruction and the rest of the bytes, the instruction is well-formed and its
encoding followed by the rest is exactly the bytes given: no bit of an opcode or operand byte is dropped and each byte
sequence has one meaning. -/
def Obligations.DecodedBytesEncodeBack : Prop :=
  ∀ (bs : List Byte) (i : Instr) (rest : List Byte), decode bs = .ok (i, rest) →
    i.wellFormed = true ∧ encode i ++ rest = bs

/-- Exactly the 60 listed opcodes, 0x76 and 0xCB among them, decode to an unpopulated slot (30_encoding.md R78, 30_encoding.md
R80, 30_encoding.md R81, 30_encoding.md R82, 30_encoding.md R83). The list of R81 has 60 different opcodes, contains 0x76 and
0xCB, and an opcode byte decodes to the unpopulated slot, alone, exactly when it is in the list. -/
def Obligations.UndefinedSlotsAreExactlyTheListed : Prop :=
  undefinedOpcodes.Nodup ∧ undefinedOpcodes.length = 60 ∧ 0x76 ∈ undefinedOpcodes ∧ 0xCB ∈ undefinedOpcodes ∧
    ∀ (op : Byte) (rest : List Byte), decode (op :: rest) = .ok (.undefined op, rest) ↔ op ∈ undefinedOpcodes

/-- The opcode byte alone fixes the length, 1 to 3 bytes, and decoding fails only where bytes are missing (30_encoding.md R70,
30_encoding.md R79, 30_encoding.md R84, 30_encoding.md R85). The length of an instruction is between 1 and 3 and depends on
the opcode byte alone. Decoding fails exactly when fewer bytes are there than that length, and otherwise consumes exactly that
many. -/
def Obligations.LengthFollowsOpcode : Prop :=
  ∀ (op : Byte) (rest : List Byte),
    1 ≤ lengthOf op ∧ lengthOf op ≤ 3 ∧
    ((∃ err, decode (op :: rest) = .error err) ↔ rest.length + 1 < lengthOf op) ∧
    ∀ (i : Instr) (rest' : List Byte), decode (op :: rest) = .ok (i, rest') →
      (encode i).length = lengthOf op ∧ rest'.length + lengthOf op = rest.length + 1

/-- Instruction words written out from the formats decode to the instructions they stand for (30_encoding.md R71, 30_encoding.md
R77). One word of each format, written bit by bit from R71, decodes to the instruction R77 names. Opcode numbers are from
general knowledge, by the spec's own mark (log 7). -/
def Obligations.WordsWrittenFromTheSpecDecode : Prop :=
  decode [0b00000000] = .ok (.nop, []) ∧
    decode [0b01000001] = .ok (.ld_b_c, []) ∧
    decode [0b01110101] = .ok (.ld_at_hl_l, []) ∧
    decode [0b00111110, 0x42] = .ok (.ld_a_n 0x42, []) ∧
    decode [0b00100001, 0x34, 0x12] = .ok (.ld_hl_nn 0x1234, []) ∧
    decode [0b00110101] = .ok (.dec_at_hl, []) ∧
    decode [0b00111011] = .ok (.dec_sp, []) ∧
    decode [0b00011001] = .ok (.add_hl_de, []) ∧
    decode [0b00101010] = .ok (.ld_a_at_hli, []) ∧
    decode [0b10011110] = .ok (.sbc_a_at_hl, []) ∧
    decode [0b11101110, 0x0F] = .ok (.xor_n 0x0F, []) ∧
    decode [0b00011000, 0xFE] = .ok (.jr_e 0xFE, []) ∧
    decode [0b00111000, 0x10] = .ok (.jr_c_e 0x10, []) ∧
    decode [0b11000011, 0x50, 0x01] = .ok (.jp_nn 0x0150, []) ∧
    decode [0b11100000, 0x40] = .ok (.ldh_at_n_a 0x40, []) ∧
    decode [0b11111010, 0x00, 0xC0] = .ok (.ld_a_at_nn 0xC000, [])

/-- The register, pair, condition and operation fields of an opcode select the operands the tables name (30_encoding.md R71,
30_encoding.md R72, 30_encoding.md R73, 30_encoding.md R74, 30_encoding.md R75, 30_encoding.md R82). For every value of the
fields ddd, sss, pp, cc and aaa, the opcode number built from them in each format of R71 that has them decodes to the
instruction with exactly those operands. Field value 6 is the (HL) operand in every format with ddd or sss, 0x76 is no move,
and pp is BC, DE, HL+ and HL- in F_IND. The field numberings are from general knowledge, by the spec's own marks (log 7). -/
def Obligations.OpcodeFieldsSelectOperands : Prop :=
  (∀ dst src : Reg8, decode [BitVec.ofNat 8 (0x40 + 8 * dst.index + src.index)] = .ok (Instr.ld dst src, [])) ∧
    (∀ r : Reg8,
      decode [BitVec.ofNat 8 (0x40 + 8 * r.index + 6)] = .ok (Instr.ldFromHL r, []) ∧
      decode [BitVec.ofNat 8 (0x70 + r.index)] = .ok (Instr.ldToHL r, []) ∧
      decode [BitVec.ofNat 8 (0x04 + 8 * r.index)] = .ok (Instr.inc r, []) ∧
      decode [BitVec.ofNat 8 (0x05 + 8 * r.index)] = .ok (Instr.dec r, []) ∧
      ∀ n : Byte, decode [BitVec.ofNat 8 (0x06 + 8 * r.index), n] = .ok (Instr.ldImm r n, [])) ∧
    decode [BitVec.ofNat 8 (0x04 + 8 * 6)] = .ok (.inc_at_hl, []) ∧
    decode [BitVec.ofNat 8 (0x05 + 8 * 6)] = .ok (.dec_at_hl, []) ∧
    (∀ n : Byte, decode [BitVec.ofNat 8 (0x06 + 8 * 6), n] = .ok (.ld_at_hl_n n, [])) ∧
    (∀ x ∈ [(0, Instr.ld_at_bc_a, Instr.ld_a_at_bc), (1, .ld_at_de_a, .ld_a_at_de), (2, .ld_at_hli_a, .ld_a_at_hli),
        (3, .ld_at_hld_a, .ld_a_at_hld)],
      decode [BitVec.ofNat 8 (0x02 + 16 * x.1)] = .ok (x.2.1, []) ∧
      decode [BitVec.ofNat 8 (0x0A + 16 * x.1)] = .ok (x.2.2, [])) ∧
    (∀ p : Pair,
      decode [BitVec.ofNat 8 (0x03 + 16 * p.field.toNat)] = .ok (Instr.incPair p, []) ∧
      decode [BitVec.ofNat 8 (0x0B + 16 * p.field.toNat)] = .ok (Instr.decPair p, []) ∧
      decode [BitVec.ofNat 8 (0x09 + 16 * p.field.toNat)] = .ok (Instr.addHL p, []) ∧
      ∀ lo hi : Byte, decode [BitVec.ofNat 8 (0x01 + 16 * p.field.toNat), lo, hi] =
        .ok (Instr.ldPair p (wordOf hi lo), [])) ∧
    (∀ op : AluOp,
      (∀ r : Reg8, decode [BitVec.ofNat 8 (0x80 + 8 * op.field.toNat + r.index)] = .ok (Instr.alu op r, [])) ∧
      decode [BitVec.ofNat 8 (0x86 + 8 * op.field.toNat)] = .ok (Instr.aluAtHL op, []) ∧
      ∀ n : Byte, decode [BitVec.ofNat 8 (0xC6 + 8 * op.field.toNat), n] = .ok (Instr.aluImm op n, [])) ∧
    (∀ (cc : Cond) (e : Byte), decode [BitVec.ofNat 8 (0x20 + 8 * cc.field.toNat), e] = .ok (Instr.jr cc e, [])) ∧
    decode [0x76] = .ok (.undefined 0x76, [])

/-- A step reads the opcode at the pc, then its operand byte or word, and executes the instruction they decode to
(60_exceptions.md R255, 20_memory.md R53, 20_memory.md R57, 30_encoding.md R76, 30_encoding.md R80). In a running state with
well-formed flags, where the opcode read at the pc is not left out of POPULATED: if the opcode alone, the opcode and the byte
read at pc + 1, or the opcode and the word read at pc + 1 decode to an instruction, the step is exec of it in the state after
exactly those reads. This holds for the flat RAM and for the oracle. -/
def Obligations.StepRunsDecodedInstruction : Prop :=
  ∀ (s : State) (i : Instr), s.run = .running → flagsOk s.f = true →
    s.params.depopulated.contains (readByte s s.pc).1 = false →
    (decode [(readByte s s.pc).1] = .ok (i, []) → step s = exec i (readByte s s.pc).2) ∧
    (decode [(readByte s s.pc).1, (readByte (readByte s s.pc).2 (s.pc + 1)).1] = .ok (i, []) →
      step s = exec i (readByte (readByte s s.pc).2 (s.pc + 1)).2) ∧
    (decode (opWithWord (readByte s s.pc).1 (readWord (readByte s s.pc).2 (s.pc + 1)).1) = .ok (i, []) →
      step s = exec i (readWord (readByte s s.pc).2 (s.pc + 1)).2)

/-- Under flat RAM a step executes the instruction that the bytes in memory at the pc decode to (60_exceptions.md R255,
20_memory.md R50, 20_memory.md R55, 20_memory.md R57, 20_memory.md R66, 20_memory.md R67). Under flat RAM, if the three bytes
that memory holds at pc, pc + 1 and pc + 2 (mod 2^16) decode to an instruction whose opcode is not left out of POPULATED, the
step is exec of it in the state whose access history is extended by the fetch of its bytes and in which nothing else changed. -/
def Obligations.StepRunsBytesInFlatRam : Prop :=
  ∀ (s : State) (i : Instr) (rest : List Byte), s.run = .running → flagsOk s.f = true →
    s.params.memModel = .flatRam → s.params.depopulated.contains i.opcode = false →
    decode [Memory.read s.mem s.pc.toNat, Memory.read s.mem (s.pc + 1).toNat, Memory.read s.mem (s.pc + 2).toNat] =
      .ok (i, rest) →
    step s = exec i { s with history := fetchAccesses s (encode i).length ++ s.history }

/-- Fetching an opcode that has no handler faults, writes nothing else, adds no cycles and reads one byte (R250). In a running
state, if the byte read at the pc is one of the 60 opcodes outside S_def or is left out of POPULATED, the step gives the
Faulted state with the record (pc, opcode); every register, flag, memory byte and the cycle total are as before, and the one
memory access is the opcode fetch. -/
def Obligations.UndefinedOpcodeFaults : Prop :=
  ∀ s : State, s.run = .running → flagsOk s.f = true →
    busAnswer s s.pc ∈ undefinedOpcodes ∨ s.params.depopulated.contains (busAnswer s s.pc) = true →
    step s = .next { s with
      run := .faulted
      fault := some (.undefinedOpcode s.pc (busAnswer s s.pc))
      history := .readByte s.pc (busAnswer s s.pc) :: s.history }

/-- Executing an unpopulated slot takes the Undefined Opcode fault (60_exceptions.md R250, 60_exceptions.md R252, 60_exceptions.md
R255). exec of an unpopulated slot answers the state whose run is Faulted and whose fault is the record of the pc and the
opcode; nothing else changes. The record has cause code 1, the register-index record cause code 2. -/
def Obligations.UndefinedInstructionTakesFault : Prop :=
  ∀ (op : Byte) (s : State) (index : Nat),
    exec (.undefined op) s = .next { s with run := .faulted, fault := some (.undefinedOpcode s.pc op) } ∧
    (Fault.undefinedOpcode s.pc op).causeCode = 1 ∧ (Fault.invalidRegisterIndex index).causeCode = 2

/-- No step and no boundary action leaves the Faulted state (60_exceptions.md R256, 60_exceptions.md R260, 95_test_vectors.md
section 2.9). In a Faulted state, step is refused, and so is every action of the host and of the interrupt controller. -/
def Obligations.FaultedIsTerminal : Prop :=
  ∀ (s : State) (x : BoundaryAction), s.run = .faulted →
    step s = .refused .noStepFromFaulted ∧ boundary x s = .refused .noStepFromFaulted

/-- Every instruction and every running step answers a next state: the core stops by faulting only (60_exceptions.md R255,
60_exceptions.md R257, 30_encoding.md R84, 30_encoding.md R85). exec of any instruction in any state answers a next state, and
so does step in any running state whose F has a zero low nibble; that state is running or holds the fault record of the opcode
at the pc. -/
def Obligations.RunningStepAlwaysAnswersNext : Prop :=
  (∀ (i : Instr) (s : State), ∃ t, exec i s = .next t) ∧
    ∀ s : State, s.run = .running → flagsOk s.f = true →
      ∃ t, step s = .next t ∧
        (t.run = .running ∨ t.fault = some (.undefinedOpcode s.pc (busAnswer s s.pc)))

/-- A step that ends Faulted is the Undefined Opcode fault and leaves the whole state as it was (60_exceptions.md R251,
60_exceptions.md R253, 60_exceptions.md R254, 30_encoding.md R72, 30_encoding.md R73). If a step answers a Faulted state, its
record is the Undefined Opcode fault of the pc and the opcode read there, and every register, flag, the pc, the cycle total,
IME, IE, IF and memory are exactly as before; only the opcode fetch is recorded. So no step raises an invalid register index. -/
def Obligations.FaultsArePrecise : Prop :=
  ∀ s t : State, step s = .next t → t.run = .faulted →
    t = { s with
      run := .faulted
      fault := some (.undefinedOpcode s.pc (busAnswer s s.pc))
      history := .readByte s.pc (busAnswer s s.pc) :: s.history }

/-- Every step keeps the invariant: F's low nibble is zero, a fault record exactly in Faulted, canonical memory (10_state.md R27,
10_state.md R28, 10_state.md R35, 20_memory.md R67). From every state that meets the invariant, a step that answers a next
state answers one that meets it. -/
def Obligations.StepKeepsInvariant : Prop :=
  ∀ s t : State, s.Inv → step s = .next t → t.Inv

/-- The invariant holds in every state that steps and boundary actions reach from a state that meets it (10_state.md R27,
10_state.md R28, 10_state.md R35, 60_exceptions.md R257, 60_exceptions.md R260). From every state that meets the invariant,
each state reached by any interleaving of steps and of actions of the host and the interrupt controller meets it, and keeps
the parameters. -/
def Obligations.ReachableStatesKeepInvariant : Prop :=
  ∀ s t : State, s.Inv → Reaches s t → t.Inv ∧ t.params = s.params

/-- The state after reset meets the invariant (10_state.md R27, 10_state.md R37). State.reset has a zero low nibble in F, is
Running with no fault record, and its memory is in canonical form. -/
def Obligations.ResetMeetsInvariant : Prop :=
  State.reset.Inv

/-- The state after reset holds the default post-boot registers and zeroed interrupt state (10_state.md R37,
70_reset_and_hazards.md R280, 70_reset_and_hazards.md R281, 70_reset_and_hazards.md R282, 90_conflicts.md C10, 00_scope.md
R9). Each field of State.reset has the value of R37. The register values are the defaults of BOOT_REGS, from general knowledge
by the spec's own mark (log 6); the parameters are the defaults of 00_scope.md R9, MEM the external oracle among them. That
memory lists nothing, the history is empty (log 20) and DOUBLE_SPEED is false (log 27) is the model's choice. -/
def Obligations.ResetState : Prop :=
  State.reset.a = 0x01 ∧ State.reset.f = 0xB0 ∧ State.reset.bc = 0x0013 ∧ State.reset.de = 0x00D8 ∧
    State.reset.hl = 0x014D ∧ State.reset.sp = 0xFFFE ∧ State.reset.pc = 0x0100 ∧
    State.reset.ime = false ∧ State.reset.ie = 0x00 ∧ State.reset.ifr = 0x00 ∧
    State.reset.run = .running ∧ State.reset.fault = none ∧ State.reset.cyclesTotal = 0 ∧
    State.reset.mem = [] ∧ State.reset.history = [] ∧ State.reset.params = defaultParams ∧
    defaultParams = { depopulated := [], andH := true, add16Z := .fromResult, carryMode := .exact, memModel := .oracle,
                      cycleTable := [], cycleWidth := none, doubleSpeed := false }

/-- Startup sets the registers to BOOT_REGS and zeroes the rest, and refuses a BOOT_REGS with a bad F (10_state.md R37,
70_reset_and_hazards.md R280, 70_reset_and_hazards.md R282, 92_eei_decisions.md D30, 93_implementation_defined.md U4). For
every BOOT_REGS whose F has a zero low nibble, startup answers the state with those registers, IME, IE and IF zero, Running
with no fault and cycles_total 0; the clock-speed flag changes no other field. Where the low nibble of F is not zero, startup
is refused. -/
def Obligations.StartupGivesBootState : Prop :=
  ∀ (r : BootRegs) (p : Params) (fast : Bool) (m : Memory),
    (flagsOk r.f = true → ∃ t, startup r p fast m = .next t ∧
      t.a = r.a ∧ t.f = r.f ∧ t.b = r.b ∧ t.c = r.c ∧ t.d = r.d ∧ t.e = r.e ∧ t.h = r.h ∧ t.l = r.l ∧
      t.sp = r.sp ∧ t.pc = r.pc ∧ t.ime = false ∧ t.ie = 0x00 ∧ t.ifr = 0x00 ∧ t.cyclesTotal = 0 ∧
      t.run = .running ∧ t.fault = none ∧ t.mem = m ∧ t.params = { p with doubleSpeed := fast }) ∧
    (flagsOk r.f = false → startup r p fast m = .refused .bootFlagsLowNibble)

/-- The register file accesses the seven 8-bit registers and three pairs, and raises a fault for any other index (10_state.md R22,
10_state.md R24, 10_state.md R25, 30_encoding.md R72, 60_exceptions.md R251, 92_eei_decisions.md D26). read8 and write8 read
and write B, C, D, E, H, L and A for the indices 0 to 5 and 7, read16 and write16 BC, DE and HL for 0 to 2, both halves of the
pair written; a written register reads back, and the index a decoder field gives is its register's. Any other index gives the
fault InvalidRegisterIndex of that index. An operand or a destination, 8-bit or 16-bit, that gets it answers the state in
which the instruction began, but for Faulted and the record, whatever state the instruction had made by then and whatever it
would have done next: that the partial effects are discarded is the spec's own decision D26, and the state they are discarded
to is the model's choice (log 14). -/
def Obligations.RegisterFileRefusesBadIndex : Prop :=
  ∀ (s : State) (i : Nat) (v : Byte) (w : Word),
    [read8 s 0, read8 s 1, read8 s 2, read8 s 3, read8 s 4, read8 s 5, read8 s 7] =
      [.ok s.b, .ok s.c, .ok s.d, .ok s.e, .ok s.h, .ok s.l, .ok s.a] ∧
    [write8 s 0 v, write8 s 1 v, write8 s 2 v, write8 s 3 v, write8 s 4 v, write8 s 5 v, write8 s 7 v] =
      [.ok { s with b := v }, .ok { s with c := v }, .ok { s with d := v }, .ok { s with e := v }, .ok { s with h := v },
       .ok { s with l := v }, .ok { s with a := v }] ∧
    [read16 s 0, read16 s 1, read16 s 2] = [.ok s.bc, .ok s.de, .ok s.hl] ∧
    [write16 s 0 w, write16 s 1 w, write16 s 2 w] =
      [.ok { s with b := hiByte w, c := loByte w }, .ok { s with d := hiByte w, e := loByte w },
       .ok { s with h := hiByte w, l := loByte w }] ∧
    (∀ r : Reg8, read8 s r.index = .ok (s.reg r) ∧ write8 s r.index v = .ok (s.setReg r v)) ∧
    (i < 8 ∧ i ≠ 6 → (∃ x, read8 s i = .ok x) ∧ ∃ t, write8 s i v = .ok t ∧ read8 t i = .ok v) ∧
    (i = 6 ∨ 8 ≤ i →
      read8 s i = .error (.invalidRegisterIndex i) ∧ write8 s i v = .error (.invalidRegisterIndex i)) ∧
    (i < 3 → (∃ x, read16 s i = .ok x) ∧ ∃ t, write16 s i w = .ok t ∧ read16 t i = .ok w) ∧
    (3 ≤ i →
      read16 s i = .error (.invalidRegisterIndex i) ∧ write16 s i w = .error (.invalidRegisterIndex i)) ∧
    (∀ (α : Type) (k : α → Out), orRaise s (.error (.invalidRegisterIndex i)) k =
      .next { s with run := .faulted, fault := some (.invalidRegisterIndex i) }) ∧
    ∀ (s1 : State) (kByte : Byte → Out) (kWord : Word → Out) (kState : State → Out),
      (i = 6 ∨ 8 ≤ i →
        orRaise s (read8 s1 i) kByte = .next { s with run := .faulted, fault := some (.invalidRegisterIndex i) } ∧
        orRaise s (write8 s1 i v) kState = .next { s with run := .faulted, fault := some (.invalidRegisterIndex i) }) ∧
      (3 ≤ i →
        orRaise s (read16 s1 i) kWord = .next { s with run := .faulted, fault := some (.invalidRegisterIndex i) } ∧
        orRaise s (write16 s1 i w) kState = .next { s with run := .faulted, fault := some (.invalidRegisterIndex i) })

/-- A pair is its two halves: writing the pair writes both, writing a half leaves the other (10_state.md R24, 10_state.md R25,
95_test_vectors.md E3). The value of BC, DE, HL and AF is 256 times the first-named register plus the second. Writing a pair
sets its halves to the high and low byte and is read back; writing one half changes only that half of the pair; no pair write
reaches A. Which half is high is the spec's own decision D5 (log 7). -/
def Obligations.RegisterPairsShareStorage : Prop :=
  ∀ (s : State) (v : Byte) (w : Word),
    s.bc.toNat = 256 * s.b.toNat + s.c.toNat ∧ s.de.toNat = 256 * s.d.toNat + s.e.toNat ∧
    s.hl.toNat = 256 * s.h.toNat + s.l.toNat ∧ s.af.toNat = 256 * s.a.toNat + s.f.toNat ∧
    (∀ p : Pair, (s.setPair p w).pair p = w ∧ (s.setPair p w).a = s.a) ∧
    (s.setPair .bc w).b.toNat = w.toNat / 256 ∧ (s.setPair .bc w).c.toNat = w.toNat % 256 ∧
    (s.setPair .de w).d.toNat = w.toNat / 256 ∧ (s.setPair .de w).e.toNat = w.toNat % 256 ∧
    (s.setPair .hl w).h.toNat = w.toNat / 256 ∧ (s.setPair .hl w).l.toNat = w.toNat % 256 ∧
    (s.setReg .b v).bc = wordOf v s.c ∧ (s.setReg .c v).bc = wordOf s.b v ∧
    (s.setReg .d v).de = wordOf v s.e ∧ (s.setReg .e v).de = wordOf s.d v ∧
    (s.setReg .h v).hl = wordOf v s.l ∧ (s.setReg .l v).hl = wordOf s.h v

/-- Flat RAM reads back the last byte written; the oracle answers freely from the history; words are little-endian (20_memory.md
R52, 20_memory.md R53, 20_memory.md R54, 20_memory.md R56, 20_memory.md R67). Under flat RAM with canonical memory, a byte
read after a byte write gives the byte written at that address and what it gave before at every other, and a word read gives
the byte at a + 1 (mod 2^16) as high and at a as low. Under the oracle a read answers a free value, a function of the history
and the address. Each read and write extends the history by itself alone. -/
def Obligations.MemoryAnswersByModel : Prop :=
  ∀ (s : State) (a b : Word) (v : Byte),
    (s.params.memModel = .flatRam → Memory.wf s.mem = true →
      (readByte (writeByte s a v) b).1 = if b = a then v else (readByte s b).1) ∧
    (s.params.memModel = .flatRam →
      (readWord s a).1.toNat = 256 * (Memory.read s.mem (a + 1).toNat).toNat + (Memory.read s.mem a.toNat).toNat) ∧
    (s.params.memModel = .oracle → (readByte s a).1 = Config.oracleByte s.history a) ∧
    (readByte s a).2 = { s with history := .readByte a (readByte s a).1 :: s.history } ∧
    (readWord s a).2 = { s with history := .readWord a (readWord s a).1 :: s.history } ∧
    (writeByte s a v).history = .writeByte a v :: s.history

/-- LD r,r' copies the source register into the destination, at cost 1 and pc + 1, with no other change (R101). For every pair of
registers: LD r,r' is encoded by F_RR with their fields, has default cost 1, and answers the state with the source's value in
the destination, pc + 1 and the cost accounted, and nothing else changed; with equal registers no register changes. -/
def Obligations.MoveCopiesRegister : Prop :=
  ∀ (dst src : Reg8) (s : State),
    encode (Instr.ld dst src) = [fRR dst.field src.field] ∧
    defaultCycles (Instr.ld dst src).opcode = 1 ∧
    exec (Instr.ld dst src) s = .next ((s.setReg dst (s.reg src)).past (Instr.ld dst src) 1) ∧
    (dst = src → exec (Instr.ld dst src) s = .next (s.past (Instr.ld dst src) 1))

/-- LD r,(HL), LD (HL),r and LD (HL),n move one byte between a register or immediate and the byte at HL (40_register_loads.md
R102, 40_register_loads.md R103, 40_register_loads.md R105). LD r,(HL) reads the byte at the old HL and writes it to the
register; LD (HL),r writes the register and LD (HL),n the immediate to the byte at HL; each ends past itself and changes
nothing else. The (HL) forms are the spec's own decision D7. -/
def Obligations.LoadAndStoreThroughHL : Prop :=
  ∀ (r : Reg8) (n : Byte) (s : State),
    exec (Instr.ldFromHL r) s =
      .next (((readByte s s.hl).2.setReg r (readByte s s.hl).1).past (Instr.ldFromHL r) 1) ∧
    exec (Instr.ldToHL r) s = .next ((writeByte s s.hl (s.reg r)).past (Instr.ldToHL r) 1) ∧
    exec (.ld_at_hl_n n) s = .next ((writeByte s s.hl n).past (.ld_at_hl_n n) 2)

/-- LD r,n and LD rr,nn write the immediate to the register or to both halves of the pair, or to SP (40_register_loads.md R100,
40_register_loads.md R104, 40_register_loads.md R106). LD r,n writes n to the register and moves the pc by 2; LD rr,nn writes
nn to the pair, the high byte to the first half, or to SP, and moves the pc by 3; nothing else changes. -/
def Obligations.LoadImmediates : Prop :=
  ∀ (r : Reg8) (p : Pair) (n : Byte) (nn : Word) (s : State),
    exec (Instr.ldImm r n) s = .next ((s.setReg r n).past (Instr.ldImm r n) 2) ∧
    exec (Instr.ldPair p nn) s = .next ((s.setPair p nn).past (Instr.ldPair p nn) 3)

/-- INC r adds one mod 2^8, sets Z, N = 0 and half-carry from the operand, and keeps the carry (41_inc_dec.md R120, 41_inc_dec.md
R121, 42_alu.md R150). For every register: the result is v + 1 mod 2^8; Z says v was 0xFF, N is 0, Hf says the low nibble was
0xF, Cy is the old carry; the pc moves by 1 and nothing else changes. N = 0 is from general knowledge by the spec's own mark. -/
def Obligations.IncrementRegister : Prop :=
  ∀ (r : Reg8) (s : State),
    exec (Instr.inc r) s = .next (State.past
      { s.setReg r (s.reg r + 1) with
        f := packFlags { z := s.reg r == 0xFF, n := false, h := lowNibble (s.reg r) == 0xF, c := flagC s.f } }
      (Instr.inc r) 1)

/-- DEC r subtracts one mod 2^8, sets Z, N = 1 and half-carry from the operand, and keeps the carry (R123). For every register:
DEC r is encoded by F_R with x = 1, has default cost 1; the result is v - 1 mod 2^8; Z says v was 1, N is 1, Hf says the low
nibble was 0, Cy is the old carry; the pc moves by 1 and nothing else changes. -/
def Obligations.DecrementRegister : Prop :=
  ∀ (r : Reg8) (s : State),
    encode (Instr.dec r) = [fR r.field 1] ∧ defaultCycles (Instr.dec r).opcode = 1 ∧
    exec (Instr.dec r) s = .next (State.past
      { s.setReg r (s.reg r - 1) with
        f := packFlags { z := s.reg r == 0x01, n := true, h := lowNibble (s.reg r) == 0x0, c := flagC s.f } }
      (Instr.dec r) 1)

/-- INC (HL) and DEC (HL) read the byte at HL once and write it back changed by one, with the 8-bit flags (41_inc_dec.md R122,
41_inc_dec.md R124, 42_alu.md R150, 42_alu.md R151, 20_memory.md R57). The byte read at HL, plus or minus one mod 2^8, is
written to the same address after the read; Z, N and Hf are those of the 8-bit forms and Cy is kept; the pc moves by 1 and no
register changes. -/
def Obligations.IncDecByteAtHL : Prop :=
  ∀ s : State,
    exec .inc_at_hl s = .next (State.past
      { writeByte (readByte s s.hl).2 s.hl ((readByte s s.hl).1 + 1) with
        f := packFlags { z := (readByte s s.hl).1 == 0xFF, n := false, h := lowNibble (readByte s s.hl).1 == 0xF,
                         c := flagC s.f } }
      .inc_at_hl 1) ∧
    exec .dec_at_hl s = .next (State.past
      { writeByte (readByte s s.hl).2 s.hl ((readByte s s.hl).1 - 1) with
        f := packFlags { z := (readByte s s.hl).1 == 0x01, n := true, h := lowNibble (readByte s s.hl).1 == 0x0,
                         c := flagC s.f } }
      .dec_at_hl 1)

/-- INC rr and DEC rr change the pair by one mod 2^16 and touch no flag (R125, R126). For every pair and SP: INC rr and DEC rr are
encoded by F_P with y = 0 and 1, have default cost 2, and answer the state with the pair plus or minus one, mod 2^16, the pc
moved by 1, and nothing else changed: 0xFFFF and 0x0000 wrap, with F as it was. -/
def Obligations.IncDecPairs : Prop :=
  ∀ (p : Pair) (s : State),
    encode (Instr.incPair p) = [fP p.field 0] ∧ encode (Instr.decPair p) = [fP p.field 1] ∧
    defaultCycles (Instr.incPair p).opcode = 2 ∧ defaultCycles (Instr.decPair p).opcode = 2 ∧
    (∃ w : Word, w.toNat = (s.pair p).toNat.succ % 0x10000 ∧
      exec (Instr.incPair p) s = .next ((s.setPair p w).past (Instr.incPair p) 1)) ∧
    (∃ w : Word, w.toNat = ((s.pair p).toNat + 0xFFFF) % 0x10000 ∧
      exec (Instr.decPair p) s = .next ((s.setPair p w).past (Instr.decPair p) 1))

/-- ADD and ADC: result and carry are the exact sum, half-carry is the carry out of bit 3, N is 0 (42_alu.md R142, 42_alu.md R143,
42_alu.md R153). For all operands: the result plus 256 times the carry is the exact sum (for ADC with the carry-in, under
CARRY_MODE = exact); the half-carry is the carry out of the sum of the low nibbles; Z says the result is zero; N is 0 (from
general knowledge by the spec's own mark). Under wrapped_compare ADC's carry says the result is below A. -/
def Obligations.AddAndAdcClasses : Prop :=
  ∀ (a b : Byte) (cin : Bool) (mode : CarryMode),
    (flagADD a b).1.toNat + 256 * (flagADD a b).2.c.toNat = a.toNat + b.toNat ∧
    (flagADD a b).2.h.toNat = (a.toNat % 16 + b.toNat % 16) / 16 ∧
    ((flagADD a b).2.z = true ↔ (flagADD a b).1 = 0) ∧ (flagADD a b).2.n = false ∧
    (flagADC .exact a b cin).1.toNat + 256 * (flagADC .exact a b cin).2.c.toNat = a.toNat + b.toNat + cin.toNat ∧
    (flagADC mode a b cin).2.h.toNat = (a.toNat % 16 + b.toNat % 16 + cin.toNat) / 16 ∧
    ((flagADC mode a b cin).2.z = true ↔ (flagADC mode a b cin).1 = 0) ∧ (flagADC mode a b cin).2.n = false ∧
    ((flagADC .wrappedCompare a b cin).2.c = true ↔ (flagADC .wrappedCompare a b cin).1.toNat < a.toNat)

/-- SUB and CP: the result is a - b mod 2^8, the carry is the borrow, the half-carry the low nibbles' borrow (R144, R149). For all
operands: the result of SUB is a - b truncated to 8 bits; Z says it is zero, N is 1, Hf says a's low nibble is below b's, Cy
says a is below b, which is the same as the result being above a. CP has the flags of SUB: Z says a equals b, and Cy says a is
below b, both unsigned; and a CP instruction discards the result: A stays. -/
def Obligations.SubAndCompareClasses : Prop :=
  (∀ a b : Byte,
    (flagSUB a b).1.toNat = (a.toNat + 256 - b.toNat) % 256 ∧
    ((flagSUB a b).2.z = true ↔ (flagSUB a b).1 = 0) ∧ (flagSUB a b).2.n = true ∧
    ((flagSUB a b).2.h = true ↔ a.toNat % 16 < b.toNat % 16) ∧
    ((flagSUB a b).2.c = true ↔ a.toNat < b.toNat) ∧
    ((flagSUB a b).2.c = true ↔ (flagSUB a b).1.toNat > a.toNat) ∧
    (flagCP a b).2 = (flagSUB a b).2 ∧
    ((flagCP a b).2.z = true ↔ a = b) ∧ ((flagCP a b).2.c = true ↔ a.toNat < b.toNat)) ∧
    ∀ (b : Byte) (s : State), (aluWrite .cp b s).a = s.a

/-- SBC: result and borrow are the exact difference with the incoming borrow, in both nibble and byte (42_alu.md R145, 42_alu.md
R153). For all operands, under CARRY_MODE = exact: the result plus b plus the carry-in is a plus 256 times the borrow. In both
modes the half-carry says a's low nibble is below b's plus the carry-in, Z says the result is zero, N is 1. Under
wrapped_compare the carry says the result is above A. -/
def Obligations.SbcClass : Prop :=
  ∀ (a b : Byte) (cin : Bool) (mode : CarryMode),
    (flagSBC .exact a b cin).1.toNat + b.toNat + cin.toNat = a.toNat + 256 * (flagSBC .exact a b cin).2.c.toNat ∧
    ((flagSBC mode a b cin).2.h = true ↔ a.toNat % 16 < b.toNat % 16 + cin.toNat) ∧
    ((flagSBC mode a b cin).2.z = true ↔ (flagSBC mode a b cin).1 = 0) ∧ (flagSBC mode a b cin).2.n = true ∧
    ((flagSBC .wrappedCompare a b cin).2.c = true ↔ (flagSBC .wrappedCompare a b cin).1.toNat > a.toNat)

/-- The two CARRY_MODEs differ only in the carry, and only where b is 0xFF and the carry-in is 1 (42_alu.md R153, 90_conflicts.md
C6). For all operands, ADC and SBC give the same result, Z, N and Hf in both modes; the carries differ exactly when b = 0xFF
and the carry-in is 1, and there exact gives 1, wrapped_compare gives 0 and the result is A. -/
def Obligations.CarryModesDifferOnlyAtFullOperand : Prop :=
  ∀ (a b : Byte) (cin : Bool),
    (flagADC .exact a b cin).1 = (flagADC .wrappedCompare a b cin).1 ∧
    { (flagADC .exact a b cin).2 with c := (flagADC .wrappedCompare a b cin).2.c } =
      (flagADC .wrappedCompare a b cin).2 ∧
    (flagSBC .exact a b cin).1 = (flagSBC .wrappedCompare a b cin).1 ∧
    { (flagSBC .exact a b cin).2 with c := (flagSBC .wrappedCompare a b cin).2.c } =
      (flagSBC .wrappedCompare a b cin).2 ∧
    ((flagADC .exact a b cin).2.c ≠ (flagADC .wrappedCompare a b cin).2.c ↔ b = 0xFF ∧ cin = true) ∧
    ((flagSBC .exact a b cin).2.c ≠ (flagSBC .wrappedCompare a b cin).2.c ↔ b = 0xFF ∧ cin = true) ∧
    (b = 0xFF ∧ cin = true →
      (flagADC .exact a b cin).2.c = true ∧ (flagADC .exact a b cin).1 = a ∧
      (flagSBC .exact a b cin).2.c = true ∧ (flagSBC .exact a b cin).1 = a)

/-- AND, XOR and OR are bitwise, clear N and Cy, and write Hf as AND_H for AND and 0 for XOR and OR (42_alu.md R146, 42_alu.md
R147, 42_alu.md R148, 90_conflicts.md C1). Each bit of the result is the AND, XOR or OR of the operands' bits; Z says the
result is zero; N and Cy are 0; Hf is the parameter AND_H after AND and 0 after XOR and OR. AND_H's default 1 is from general
knowledge by the spec's own mark (log 8). -/
def Obligations.LogicClasses : Prop :=
  ∀ (andH : Bool) (a b : Byte) (k : Nat),
    (flagAND andH a b).1.getLsbD k = (a.getLsbD k && b.getLsbD k) ∧
    (flagXOR a b).1.getLsbD k = (a.getLsbD k).xor (b.getLsbD k) ∧
    (flagOR a b).1.getLsbD k = (a.getLsbD k || b.getLsbD k) ∧
    (flagAND andH a b).2 = { z := (flagAND andH a b).1 == 0, n := false, h := andH, c := false } ∧
    (flagXOR a b).2 = { z := (flagXOR a b).1 == 0, n := false, h := false, c := false } ∧
    (flagOR a b).2 = { z := (flagOR a b).1 == 0, n := false, h := false, c := false }

/-- The 16-bit add: result and carry are the exact sum, half-carry is the carry out of bit 11, Z by ADD16_Z (42_alu.md R152,
90_conflicts.md C5). For all operands: the result plus 2^16 times the carry is the exact sum, Hf is the carry out of bit 11, N
is 0; Z says the 16-bit result is zero under from_result and keeps its old value under unaffected. N, Hf and Cy are from
general knowledge by the spec's own mark. -/
def Obligations.AddSixteenClass : Prop :=
  ∀ (policy : Add16Z) (a b : Word) (oldZ : Bool),
    (flagADD16 policy a b oldZ).1.toNat + 0x10000 * (flagADD16 policy a b oldZ).2.c.toNat = a.toNat + b.toNat ∧
    (flagADD16 policy a b oldZ).2.h.toNat = (a.toNat % 0x1000 + b.toNat % 0x1000) / 0x1000 ∧
    (flagADD16 policy a b oldZ).2.n = false ∧
    ((flagADD16 .fromResult a b oldZ).2.z = true ↔ (flagADD16 .fromResult a b oldZ).1 = 0) ∧
    (flagADD16 .unaffected a b oldZ).2.z = oldZ

/-- ADD, ADC, SUB, SBC, AND, XOR, OR and CP with a register write A (not for CP) and F from their flag class (42_alu.md R140,
42_alu.md R160, 42_alu.md R163, 42_alu.md R166, 42_alu.md R169, 42_alu.md R172, 42_alu.md R175, 42_alu.md R178, 42_alu.md
R181, 30_encoding.md R75). For every operation and register: A becomes the class's result of A, the register and the old
carry, but for CP, which keeps A; F becomes the four flags; the pc moves by 1; nothing else changes. Each operation has its
own class of the flag algebra. -/
def Obligations.AluRegisterForms : Prop :=
  (∀ (op : AluOp) (r : Reg8) (s : State),
    exec (Instr.alu op r) s = .next (State.past
      { s with
        a := if op = .cp then s.a else (aluResult s.params op s.a (s.reg r) (flagC s.f)).1
        f := packFlags (aluResult s.params op s.a (s.reg r) (flagC s.f)).2 }
      (Instr.alu op r) 1)) ∧
    ∀ (p : Params) (a b : Byte) (cin : Bool),
      aluResult p .add a b cin = flagADD a b ∧ aluResult p .adc a b cin = flagADC p.carryMode a b cin ∧
      aluResult p .sub a b cin = flagSUB a b ∧ aluResult p .sbc a b cin = flagSBC p.carryMode a b cin ∧
      aluResult p .and a b cin = flagAND p.andH a b ∧ aluResult p .xor a b cin = flagXOR a b ∧
      aluResult p .or a b cin = flagOR a b ∧ aluResult p .cp a b cin = flagCP a b

/-- The eight ALU operations with (HL) read the byte at HL once and write A (not for CP) and F (42_alu.md R140, 42_alu.md R161,
42_alu.md R164, 42_alu.md R167, 42_alu.md R170, 42_alu.md R173, 42_alu.md R176, 42_alu.md R179, 42_alu.md R182). For every
operation: the operand is the byte read at HL; A and F are written as for a register; the pc moves by 1; HL and memory are
unchanged. -/
def Obligations.AluByteAtHLForms : Prop :=
  ∀ (op : AluOp) (s : State),
    exec (Instr.aluAtHL op) s = .next (State.past
      { (readByte s s.hl).2 with
        a := if op = .cp then s.a else (aluResult s.params op s.a (readByte s s.hl).1 (flagC s.f)).1
        f := packFlags (aluResult s.params op s.a (readByte s s.hl).1 (flagC s.f)).2 }
      (Instr.aluAtHL op) 1)

/-- The eight ALU operations with an immediate write A (not for CP) and F and move the pc by 2 (42_alu.md R140, 42_alu.md R162,
42_alu.md R165, 42_alu.md R168, 42_alu.md R171, 42_alu.md R174, 42_alu.md R177, 42_alu.md R180, 42_alu.md R183). For every
operation and immediate: A and F are written as for a register; the pc moves by 2; nothing else changes. -/
def Obligations.AluImmediateForms : Prop :=
  ∀ (op : AluOp) (n : Byte) (s : State),
    exec (Instr.aluImm op n) s = .next (State.past
      { s with
        a := if op = .cp then s.a else (aluResult s.params op s.a n (flagC s.f)).1
        f := packFlags (aluResult s.params op s.a n (flagC s.f)).2 }
      (Instr.aluImm op n) 2)

/-- ADD HL,rr writes HL and the flags of the 16-bit add, with the pair read before HL is written (42_alu.md R152, 42_alu.md R184,
10_state.md R30). For every pair and SP: HL becomes the 16-bit sum of the old HL and the pair, F the flags of the class ADD16
under the parameter ADD16_Z, the pc moves by 1, and nothing else changes. -/
def Obligations.AddToHLPairs : Prop :=
  ∀ (p : Pair) (s : State),
    exec (Instr.addHL p) s = .next (State.past
      { s.setPair .hl (flagADD16 s.params.add16Z s.hl (s.pair p) (flagZ s.f)).1 with
        f := packFlags (flagADD16 s.params.add16Z s.hl (s.pair p) (flagZ s.f)).2 }
      (Instr.addHL p) 1)

/-- JR e sets the pc to the address after it plus the signed displacement, mod 2^16, and writes no flag (R191). JR e is encoded as
0x18 and e and has default cost 3. The new pc is pc + 2 + sext(e) mod 2^16: e = 0 goes to the next instruction, e = 0xFE to
the jump itself; the cost is accounted and nothing else changes. -/
def Obligations.JumpRelative : Prop :=
  ∀ (e : Byte) (s : State),
    encode (.jr_e e) = [0x18, e] ∧ defaultCycles 0x18 = 3 ∧
    ∃ target : Word,
      exec (.jr_e e) s =
        .next { s with pc := target, cyclesTotal := addCycles s.params s.cyclesTotal (cyclesOf s.params 0x18) } ∧
      (target.toNat : Int) = (s.pc.toNat + 2 + e.toInt) % 0x10000 ∧
      (e = 0x00 → target = s.pc + 2) ∧ (e = 0xFE → target = s.pc)

/-- JR cc,e jumps at cost 3 where the condition holds, and else moves past itself at cost 2 (43_jumps.md R190, 43_jumps.md R192,
92_eei_decisions.md D33). For each condition: where it holds on the flags, the pc becomes pc + 2 + sext(e) mod 2^16 and cost 3
is accounted; else the pc moves by 2 and cost 2 is accounted; nothing else changes. The costs of the carry variants are the
spec's own decision D33. -/
def Obligations.JumpConditional : Prop :=
  ∀ (cc : Cond) (e : Byte) (s : State),
    ∃ target : Word, (target.toNat : Int) = (s.pc.toNat + 2 + e.toInt) % 0x10000 ∧
      exec (Instr.jr cc e) s = .next
        (if condHolds cc s.f then
          { s with pc := target, cyclesTotal := addCycles s.params s.cyclesTotal 3 }
        else { s with pc := s.pc + 2, cyclesTotal := addCycles s.params s.cyclesTotal 2 })

/-- NZ and Z test the zero flag, NC and C the carry, as they stand at the start, and no jump writes a flag (R190). The four
conditions are Z = 0, Z = 1, Cy = 0 and Cy = 1. JR cc takes its branch by the flags of the state in which it starts, and no
jump instruction changes F. -/
def Obligations.ConditionsReadTheFlags : Prop :=
  (∀ x : Flags,
    (condHolds .nz (packFlags x) = true ↔ x.z = false) ∧ (condHolds .z (packFlags x) = true ↔ x.z = true) ∧
    (condHolds .nc (packFlags x) = true ↔ x.c = false) ∧ (condHolds .c (packFlags x) = true ↔ x.c = true)) ∧
    (∀ (cc : Cond) (e : Byte) (s t : State), exec (Instr.jr cc e) s = .next t →
      t.f = s.f ∧ t.pc = if condHolds cc s.f then relTarget s.pc e else s.pc + 2) ∧
    (∀ (e : Byte) (s t : State), exec (.jr_e e) s = .next t → t.f = s.f) ∧
    ∀ (nn : Word) (s t : State), exec (.jp_nn nn) s = .next t → t.f = s.f

/-- JP nn sets the pc to its little-endian operand, read as a word that may wrap at 0xFFFF (R193). JP nn is encoded as 0xC3 and
the two bytes of nn, low first, and has default cost 4. It sets the pc to nn, accounts its cost and changes nothing else. A
step at a JP in flat RAM goes to the word whose low byte is at pc + 1 and whose high byte is at pc + 2, both mod 2^16. -/
def Obligations.JumpAbsolute : Prop :=
  (∀ (nn : Word) (s : State),
    encode (.jp_nn nn) = [0xC3, loByte nn, hiByte nn] ∧ defaultCycles 0xC3 = 4 ∧
    exec (.jp_nn nn) s =
      .next { s with pc := nn, cyclesTotal := addCycles s.params s.cyclesTotal (cyclesOf s.params 0xC3) }) ∧
    ∀ s : State, s.run = .running → flagsOk s.f = true → s.params.memModel = .flatRam →
      s.params.depopulated.contains 0xC3 = false → Memory.read s.mem s.pc.toNat = 0xC3 →
      ∃ t, step s = .next t ∧
        t.pc = wordOf (Memory.read s.mem (s.pc + 2).toNat) (Memory.read s.mem (s.pc + 1).toNat)

/-- LD (BC),A, LD (DE),A, LD A,(BC) and LD A,(DE) move one byte between A and the byte at the pair (R210, R211, R214, R215). The
four are encoded as 0x02, 0x12, 0x0A and 0x1A with default cost 2. The stores write A to the byte at the pair, the loads write
the byte read there to A; the pc moves by 1, and nothing else changes, the pair included. -/
def Obligations.AccumulatorThroughPair : Prop :=
  ∀ s : State,
    encode .ld_at_bc_a = [0x02] ∧ encode .ld_at_de_a = [0x12] ∧ encode .ld_a_at_bc = [0x0A] ∧
    encode .ld_a_at_de = [0x1A] ∧
    [0x02, 0x12, 0x0A, 0x1A].map defaultCycles = [2, 2, 2, 2] ∧
    exec .ld_at_bc_a s = .next ((writeByte s s.bc s.a).past .ld_at_bc_a 1) ∧
    exec .ld_at_de_a s = .next ((writeByte s s.de s.a).past .ld_at_de_a 1) ∧
    exec .ld_a_at_bc s = .next (State.past { (readByte s s.bc).2 with a := (readByte s s.bc).1 } .ld_a_at_bc 1) ∧
    exec .ld_a_at_de s = .next (State.past { (readByte s s.de).2 with a := (readByte s s.de).1 } .ld_a_at_de 1)

/-- The HL+ and HL- forms access the byte at the old HL and then change HL by one mod 2^16 (R212, R213, R216, R217). The four are
encoded as 0x22, 0x32, 0x2A and 0x3A with default cost 2. Each accesses the byte at the old HL and then writes HL plus or
minus one, mod 2^16 with the carry from L into H; no flag changes; the pc moves by 1. -/
def Obligations.AccumulatorThroughHLPlusMinus : Prop :=
  ∀ s : State,
    encode .ld_at_hli_a = [0x22] ∧ encode .ld_at_hld_a = [0x32] ∧ encode .ld_a_at_hli = [0x2A] ∧
    encode .ld_a_at_hld = [0x3A] ∧
    [0x22, 0x32, 0x2A, 0x3A].map defaultCycles = [2, 2, 2, 2] ∧
    exec .ld_at_hli_a s = .next (((writeByte s s.hl s.a).setPair .hl (s.hl + 1)).past .ld_at_hli_a 1) ∧
    exec .ld_at_hld_a s = .next (((writeByte s s.hl s.a).setPair .hl (s.hl - 1)).past .ld_at_hld_a 1) ∧
    exec .ld_a_at_hli s = .next
      ((State.setPair { (readByte s s.hl).2 with a := (readByte s s.hl).1 } .hl (s.hl + 1)).past .ld_a_at_hli 1) ∧
    exec .ld_a_at_hld s = .next
      ((State.setPair { (readByte s s.hl).2 with a := (readByte s s.hl).1 } .hl (s.hl - 1)).past .ld_a_at_hld 1)

/-- LDH transfers one byte between A and the address 0xFF00 + n, which never wraps (R218, R219). LDH (n),A is encoded as 0xE0 and
n, LDH A,(n) as 0xF0 and n, both with default cost 3. The address is 0xFF00 + n for every n. The store writes A there, the
load writes the byte the collaborator answers to A; the pc moves by 2 and nothing else changes. -/
def Obligations.HighPageTransfers : Prop :=
  ∀ (n : Byte) (s : State),
    encode (.ldh_at_n_a n) = [0xE0, n] ∧ encode (.ldh_a_at_n n) = [0xF0, n] ∧
    defaultCycles 0xE0 = 3 ∧ defaultCycles 0xF0 = 3 ∧
    ∃ addr : Word, addr.toNat = 0xFF00 + n.toNat ∧
      exec (.ldh_at_n_a n) s = .next ((writeByte s addr s.a).past (.ldh_at_n_a n) 2) ∧
      exec (.ldh_a_at_n n) s =
        .next (State.past { (readByte s addr).2 with a := (readByte s addr).1 } (.ldh_a_at_n n) 2)

/-- LD (nn),A and LD A,(nn) transfer one byte between A and the absolute address (R220, R221). LD (nn),A is encoded as 0xEA and LD
A,(nn) as 0xFA with the address little-endian, both with default cost 4. The store writes one byte, A, at nn; the load writes
the byte read at nn to A; the pc moves by 3 and nothing else changes. A load from its own address in flat RAM gives the opcode
byte itself. -/
def Obligations.AbsoluteTransfers : Prop :=
  ∀ (nn : Word) (s : State),
    encode (.ld_at_nn_a nn) = [0xEA, loByte nn, hiByte nn] ∧ encode (.ld_a_at_nn nn) = [0xFA, loByte nn, hiByte nn] ∧
    defaultCycles 0xEA = 4 ∧ defaultCycles 0xFA = 4 ∧
    exec (.ld_at_nn_a nn) s = .next ((writeByte s nn s.a).past (.ld_at_nn_a nn) 3) ∧
    exec (.ld_a_at_nn nn) s =
      .next (State.past { (readByte s nn).2 with a := (readByte s nn).1 } (.ld_a_at_nn nn) 3) ∧
    (s.params.memModel = .flatRam → Memory.read s.mem s.pc.toNat = 0xFA → nn = s.pc →
      ∃ t, exec (.ld_a_at_nn nn) s = .next t ∧ t.a = 0xFA)

/-- NOP changes only the pc and the cycle total, and zeroed flat RAM is a run of NOPs (R230). NOP is encoded as 0x00 with default
cost 1 and changes nothing but the pc, by 1, and the cycle total. Under flat RAM filled with 0x00, n steps advance the pc by n
mod 2^16 and leave registers, flags and memory as they were. -/
def Obligations.NopAdvancesOnly : Prop :=
  (∀ s : State, encode .nop = [0x00] ∧ defaultCycles 0x00 = 1 ∧ exec .nop s = .next (s.past .nop 1)) ∧
    ∀ (n : Nat) (s : State), s.run = .running → flagsOk s.f = true → s.params.memModel = .flatRam →
      s.params.depopulated.contains 0x00 = false → (∀ a : Word, Memory.read s.mem a.toNat = 0x00) →
      ∃ t, runSteps n s = .next t ∧ t.pc = s.pc + BitVec.ofNat 16 n ∧ t.f = s.f ∧ t.mem = s.mem ∧
        t.sp = s.sp ∧ t.ime = s.ime ∧ ∀ r : Reg8, t.reg r = s.reg r

/-- DI clears IME, and with IME already clear changes only the pc and the cycle total (R231). DI is encoded as 0xF3 with default
cost 1; it sets IME to 0 and moves the pc by 1; IE, IF, F and everything else are as before. With IME = 0 it is a no-op apart
from the pc and the cycles. -/
def Obligations.DiClearsIme : Prop :=
  ∀ s : State,
    encode .di = [0xF3] ∧ defaultCycles 0xF3 = 1 ∧
    exec .di s = .next (State.past { s with ime := false } .di 1) ∧
    (s.ime = false → exec .di s = .next (s.past .di 1))

/-- EI sets IME with no delay, and EI followed by DI leaves IME clear (45_cpu_control.md R232, 92_eei_decisions.md D20,
10_state.md R32). EI answers the state with IME = 1 and the pc moved by 1, and nothing else changed; DI after it answers IME =
0. That there is no delay is the spec's own decision D20 (log 17). -/
def Obligations.EiSetsImeAtOnce : Prop :=
  ∀ s : State,
    exec .ei s = .next (State.past { s with ime := true } .ei 1) ∧
    ∃ t u, exec .ei s = .next t ∧ t.ime = true ∧ exec .di t = .next u ∧ u.ime = false

/-- No instruction changes an 8-bit register other than those it is said to write (10_state.md R22, 10_state.md R26, 10_state.md
R36). For every instruction that answers a next state, every 8-bit register outside the instruction's destinations (the table
of R36: a pair's both halves, H and L for the HL+ and HL- forms and ADD HL,rr) is unchanged. -/
def Obligations.RegisterFrame : Prop :=
  ∀ (i : Instr) (s t : State), exec i s = .next t → ∀ r : Reg8, r ∉ i.destRegs → t.reg r = s.reg r

/-- Only the ALU, INC and DEC of r and (HL), and ADD HL,rr change F; INC and DEC of a byte keep the carry; the low nibble of F
stays zero (10_state.md R23, 10_state.md R28, 10_state.md R29, 40_register_loads.md R100, 41_inc_dec.md R120,
44_memory_loads.md R209). An instruction outside the flag rows of R29 leaves F as it was. INC and DEC of a byte, in a register
or at HL, keep Cy; ADD HL,rr keeps Z under ADD16_Z = unaffected. An instruction that writes F writes a byte with a zero low
nibble. -/
def Obligations.FlagFrame : Prop :=
  ∀ (i : Instr) (s t : State), exec i s = .next t →
    (i.writesFlags = false → t.f = s.f) ∧
    (i.writesFlags = true → flagsOk t.f = true) ∧
    (i.keepsCarry = true → flagC t.f = flagC s.f) ∧
    ∀ p : Pair, i = Instr.addHL p → s.params.add16Z = .unaffected → flagZ t.f = flagZ s.f

/-- Every byte of memory but the one an instruction stores to reads as before (20_memory.md R57, 20_memory.md R58, 20_memory.md
R67). For every instruction that answers a next state and every address: unless the instruction's store address, computed as
its meaning computes it, is that address, the byte there is unchanged; an instruction with no store address changes no byte. -/
def Obligations.MemoryFrame : Prop :=
  ∀ (i : Instr) (s t : State), exec i s = .next t →
    (∀ (w : Word), storeAddr i s = some w → ∀ a : Nat, a ≠ w.toNat → Memory.read t.mem a = Memory.read s.mem a) ∧
    (storeAddr i s = none → ∀ a : Nat, Memory.read t.mem a = Memory.read s.mem a)

/-- SP changes only by its three instructions, IME only by DI and EI, IE and IF never, run and fault only by a fault (10_state.md
R30, 10_state.md R32, 10_state.md R34, 10_state.md R35, 10_state.md R36, 60_exceptions.md R263). For every instruction that
answers a next state: SP is unchanged but for LD SP,nn, INC SP and DEC SP; IME but for DI and EI; IE, IF and the parameters
always; run and the fault record but for the unpopulated slot. -/
def Obligations.SpecialRegisterFrame : Prop :=
  ∀ (i : Instr) (s t : State), exec i s = .next t →
    (i.writesSP = false → t.sp = s.sp) ∧ (i.writesIME = false → t.ime = s.ime) ∧
    t.ie = s.ie ∧ t.ifr = s.ifr ∧ t.params = s.params ∧
    (i.isUndefined = false → t.run = s.run ∧ t.fault = s.fault)

/-- A step accesses memory for the opcode, then the operand, then at most a data read and then a data write (20_memory.md R57,
20_memory.md R58, 20_memory.md R61, 20_memory.md R64). exec adds to the access history at most a byte read, at the
instruction's load address, and then a byte write, at its store address, and nothing else. The fetch before it adds the opcode
read and, by the instruction's length, one byte read or one word read at pc + 1. The order is the spec's own decision D18. -/
def Obligations.AccessesInOrder : Prop :=
  (∀ (i : Instr) (s t : State), exec i s = .next t →
    ∃ v : Byte, t.history =
      ((storeAddr i s).map fun a => Access.writeByte a v).toList ++
      ((loadAddr i s).map fun a => Access.readByte a (busAnswer s a)).toList ++ s.history) ∧
    ∀ s : State, (fetchInstr s).2 =
      { s with history := fetchAccesses s (encode (fetchInstr s).1).length ++ s.history }

/-- Every executed instruction adds its nominal cost plus one to the lifetime total, and a faulting step adds nothing
(70_reset_and_hazards.md R289, 60_exceptions.md R250, 43_jumps.md R192, 92_eei_decisions.md D33). With the unbounded counter,
an instruction that answers a next state adds its nominal cost (for JR cc 3 or 2 by the outcome) plus one, and the unpopulated
slot adds nothing. So a step never lowers the total and raises it unless it faults, and a run of N steps adds the sum of the
costs of the instructions it executed plus one each: N of them if it ends Running. That JR cc costs 3 and 2 for the carry
conditions too is the spec's own decision D33, and that CYCLES has no entry for it the model's reading (log 24). -/
def Obligations.CycleAccounting : Prop :=
  (∀ (i : Instr) (s t : State), s.params.cycleWidth = none → exec i s = .next t →
    t.cyclesTotal = s.cyclesTotal + if i.isUndefined then 0 else nominalCost i s + 1) ∧
    (∀ (cc : Cond) (e : Byte) (s : State), nominalCost (Instr.jr cc e) s = if condHolds cc s.f then 3 else 2) ∧
    (∀ s t : State, s.params.cycleWidth = none → step s = .next t →
      s.cyclesTotal ≤ t.cyclesTotal ∧ (t.run = .running → s.cyclesTotal < t.cyclesTotal) ∧
      (t.run = .running →
        t.cyclesTotal = s.cyclesTotal + nominalCost (fetchInstr s).1 (fetchInstr s).2 + 1)) ∧
    ∀ (n : Nat) (s t : State), s.params.cycleWidth = none → runSteps n s = .next t →
      t.cyclesTotal = s.cyclesTotal + ((executedCosts n s).map (· + 1)).sum ∧
      (t.run = .running → (executedCosts n s).length = n)

/-- Every instruction has the length and the default nominal cost of its row in the tables (30_encoding.md R79,
70_reset_and_hazards.md R288, 70_reset_and_hazards.md R290, 43_jumps.md R192, 92_eei_decisions.md D33). For every family, the
encoded length and the default nominal cost are those of R79 and R290; under the default parameters CYCLES is that table. JR
cc costs 3 where its condition holds and 2 where it does not, under all parameters (D33; log 24). The other costs are from
general knowledge by the spec's own mark (log 9). -/
def Obligations.DefaultCostsAndLengths : Prop :=
  (∀ op : Byte, cyclesOf defaultParams op = defaultCycles op) ∧
    (∀ dst src : Reg8, (encode (Instr.ld dst src)).length = 1 ∧ defaultCycles (Instr.ld dst src).opcode = 1) ∧
    (∀ (r : Reg8) (n : Byte),
      (encode (Instr.ldFromHL r)).length = 1 ∧ defaultCycles (Instr.ldFromHL r).opcode = 2 ∧
      (encode (Instr.ldToHL r)).length = 1 ∧ defaultCycles (Instr.ldToHL r).opcode = 2 ∧
      (encode (Instr.ldImm r n)).length = 2 ∧ defaultCycles (Instr.ldImm r n).opcode = 2 ∧
      (encode (Instr.inc r)).length = 1 ∧ defaultCycles (Instr.inc r).opcode = 1 ∧
      (encode (Instr.dec r)).length = 1 ∧ defaultCycles (Instr.dec r).opcode = 1) ∧
    (∀ (p : Pair) (nn : Word),
      (encode (Instr.ldPair p nn)).length = 3 ∧ defaultCycles (Instr.ldPair p nn).opcode = 3 ∧
      (encode (Instr.incPair p)).length = 1 ∧ defaultCycles (Instr.incPair p).opcode = 2 ∧
      (encode (Instr.decPair p)).length = 1 ∧ defaultCycles (Instr.decPair p).opcode = 2 ∧
      (encode (Instr.addHL p)).length = 1 ∧ defaultCycles (Instr.addHL p).opcode = 2) ∧
    (∀ (op : AluOp) (r : Reg8) (n : Byte),
      (encode (Instr.alu op r)).length = 1 ∧ defaultCycles (Instr.alu op r).opcode = 1 ∧
      (encode (Instr.aluAtHL op)).length = 1 ∧ defaultCycles (Instr.aluAtHL op).opcode = 2 ∧
      (encode (Instr.aluImm op n)).length = 2 ∧ defaultCycles (Instr.aluImm op n).opcode = 2) ∧
    (∀ (cc : Cond) (e n : Byte) (nn : Word) (s : State),
      (encode (Instr.jr cc e)).length = 2 ∧ nominalCost (Instr.jr cc e) s = (if condHolds cc s.f then 3 else 2) ∧
      (encode (.jr_e e)).length = 2 ∧ defaultCycles (Instr.jr_e e).opcode = 3 ∧
      (encode (.jp_nn nn)).length = 3 ∧ defaultCycles (Instr.jp_nn nn).opcode = 4 ∧
      (encode (.ld_at_hl_n n)).length = 2 ∧ defaultCycles (Instr.ld_at_hl_n n).opcode = 3 ∧
      (encode (.ldh_at_n_a n)).length = 2 ∧ defaultCycles (Instr.ldh_at_n_a n).opcode = 3 ∧
      (encode (.ldh_a_at_n n)).length = 2 ∧ defaultCycles (Instr.ldh_a_at_n n).opcode = 3 ∧
      (encode (.ld_at_nn_a nn)).length = 3 ∧ defaultCycles (Instr.ld_at_nn_a nn).opcode = 4 ∧
      (encode (.ld_a_at_nn nn)).length = 3 ∧ defaultCycles (Instr.ld_a_at_nn nn).opcode = 4) ∧
    [Instr.nop, .di, .ei].map (fun i => ((encode i).length, defaultCycles i.opcode)) = [(1, 1), (1, 1), (1, 1)] ∧
    [Instr.inc_at_hl, .dec_at_hl].map (fun i => ((encode i).length, defaultCycles i.opcode)) = [(1, 3), (1, 3)] ∧
    ∀ i ∈ [Instr.ld_at_bc_a, .ld_at_de_a, .ld_at_hli_a, .ld_at_hld_a, .ld_a_at_bc, .ld_a_at_de, .ld_a_at_hli,
        .ld_a_at_hld], (encode i).length = 1 ∧ defaultCycles i.opcode = 2

/-- No step depends on IME, IE, IF, the cycle total or the clock-speed parameter (10_state.md R21, 10_state.md R32, 10_state.md
R33, 10_state.md R34, 60_exceptions.md R263, 60_exceptions.md R266, 70_reset_and_hazards.md R286, 92_eei_decisions.md D30).
Two running states that differ only in IME, IE, IF, cycles_total and DOUBLE_SPEED take steps whose results differ at most in
those fields, and IE, IF and DOUBLE_SPEED keep the values each state gave them. -/
def Obligations.InterruptAndCycleStateIsNotRead : Prop :=
  ∀ (s t : State) (ime fast : Bool) (ie ifr : Byte) (total : Nat), step s = .next t →
    ∃ u, step { s with ime := ime, ie := ie, ifr := ifr, cyclesTotal := total,
                       params := { s.params with doubleSpeed := fast } } = .next u ∧
      { u with ime := t.ime, ie := t.ie, ifr := t.ifr, cyclesTotal := t.cyclesTotal, params := t.params } = t ∧
      u.ie = ie ∧ u.ifr = ifr ∧ u.params = { s.params with doubleSpeed := fast }

/-- At a boundary the controller writes IME and the host IE or IF, each alone, and the dump shows the state as it is
(60_exceptions.md R260, 60_exceptions.md R261, 60_exceptions.md R262, 60_exceptions.md R264, 10_state.md R36,
92_eei_decisions.md D23). In a running state, each boundary action answers the state with its own register set to the value
given and nothing else changed; the controller reads IE and IF as stored. In every state, Faulted too, the dump shows A, F, B,
C, D, E, H, L, SP, PC, IME, cycles_total, run and fault, each as the state holds it; it answers those fields and no state. The
host's writes of IE and IF are the spec's own decision D23. -/
def Obligations.BoundaryActionsWriteOneRegister : Prop :=
  (∀ (s : State) (v : Bool) (b : Byte), s.run = .running → flagsOk s.f = true →
    boundary (.setIME v) s = .next { s with ime := v } ∧
    boundary (.setIE b) s = .next { s with ie := b } ∧
    boundary (.setIF b) s = .next { s with ifr := b } ∧
    interruptRegisters s = (s.ie, s.ifr)) ∧
    ∀ s : State, dump s =
      { a := s.a, f := s.f, b := s.b, c := s.c, d := s.d, e := s.e, h := s.h, l := s.l, sp := s.sp, pc := s.pc,
        ime := s.ime, cyclesTotal := s.cyclesTotal, run := s.run, fault := s.fault }
end

