-- ==== Sys2Proof/Laws/Classes.lean ====
section
/-! SUPPORT. What the sets of instructions and the addresses of Safety.lean say of each family (spec/10_state.md R29, R36; 20_memory.md
R58). -/
namespace Sys2Proof

/-- The 8-bit registers that a pair is made of: none for SP (10_state.md R24, R25). -/
def Pair.halves : Pair → List Reg8
  | .bc => [.b, .c] | .de => [.d, .e] | .hl => [.h, .l] | .sp => []

/-! ### `Instr.destRegs` -/

@[simp] theorem destRegs_ld (dst src : Reg8) : (Instr.ld dst src).destRegs = [dst] := by cases dst <;> cases src <;> rfl
@[simp] theorem destRegs_ldFromHL (r : Reg8) : (Instr.ldFromHL r).destRegs = [r] := by cases r <;> rfl
@[simp] theorem destRegs_ldToHL (r : Reg8) : (Instr.ldToHL r).destRegs = [] := by cases r <;> rfl
@[simp] theorem destRegs_ldImm (r : Reg8) (n : Byte) : (Instr.ldImm r n).destRegs = [r] := by cases r <;> rfl
@[simp] theorem destRegs_ldPair (p : Pair) (nn : Word) : (Instr.ldPair p nn).destRegs = p.halves := by cases p <;> rfl
@[simp] theorem destRegs_inc (r : Reg8) : (Instr.inc r).destRegs = [r] := by cases r <;> rfl
@[simp] theorem destRegs_dec (r : Reg8) : (Instr.dec r).destRegs = [r] := by cases r <;> rfl
@[simp] theorem destRegs_incPair (p : Pair) : (Instr.incPair p).destRegs = p.halves := by cases p <;> rfl
@[simp] theorem destRegs_decPair (p : Pair) : (Instr.decPair p).destRegs = p.halves := by cases p <;> rfl
@[simp] theorem destRegs_alu (op : AluOp) (r : Reg8) : (Instr.alu op r).destRegs = if op = .cp then [] else [.a] := by
  cases op <;> cases r <;> rfl
@[simp] theorem destRegs_aluAtHL (op : AluOp) : (Instr.aluAtHL op).destRegs = if op = .cp then [] else [.a] := by
  cases op <;> rfl
@[simp] theorem destRegs_aluImm (op : AluOp) (n : Byte) : (Instr.aluImm op n).destRegs = if op = .cp then [] else [.a] := by
  cases op <;> rfl
@[simp] theorem destRegs_addHL (p : Pair) : (Instr.addHL p).destRegs = [.h, .l] := by cases p <;> rfl
@[simp] theorem destRegs_jr (cc : Cond) (e : Byte) : (Instr.jr cc e).destRegs = [] := by cases cc <;> rfl

/-! ### `Instr.writesFlags` -/

@[simp] theorem writesFlags_ld (dst src : Reg8) : (Instr.ld dst src).writesFlags = false := by
  cases dst <;> cases src <;> rfl
@[simp] theorem writesFlags_ldFromHL (r : Reg8) : (Instr.ldFromHL r).writesFlags = false := by cases r <;> rfl
@[simp] theorem writesFlags_ldToHL (r : Reg8) : (Instr.ldToHL r).writesFlags = false := by cases r <;> rfl
@[simp] theorem writesFlags_ldImm (r : Reg8) (n : Byte) : (Instr.ldImm r n).writesFlags = false := by cases r <;> rfl
@[simp] theorem writesFlags_ldPair (p : Pair) (nn : Word) : (Instr.ldPair p nn).writesFlags = false := by cases p <;> rfl
@[simp] theorem writesFlags_inc (r : Reg8) : (Instr.inc r).writesFlags = true := by cases r <;> rfl
@[simp] theorem writesFlags_dec (r : Reg8) : (Instr.dec r).writesFlags = true := by cases r <;> rfl
@[simp] theorem writesFlags_incPair (p : Pair) : (Instr.incPair p).writesFlags = false := by cases p <;> rfl
@[simp] theorem writesFlags_decPair (p : Pair) : (Instr.decPair p).writesFlags = false := by cases p <;> rfl
@[simp] theorem writesFlags_alu (op : AluOp) (r : Reg8) : (Instr.alu op r).writesFlags = true := by
  cases op <;> cases r <;> rfl
@[simp] theorem writesFlags_aluAtHL (op : AluOp) : (Instr.aluAtHL op).writesFlags = true := by cases op <;> rfl
@[simp] theorem writesFlags_aluImm (op : AluOp) (n : Byte) : (Instr.aluImm op n).writesFlags = true := by cases op <;> rfl
@[simp] theorem writesFlags_addHL (p : Pair) : (Instr.addHL p).writesFlags = true := by cases p <;> rfl
@[simp] theorem writesFlags_jr (cc : Cond) (e : Byte) : (Instr.jr cc e).writesFlags = false := by cases cc <;> rfl

/-! ### `Instr.keepsCarry` -/

@[simp] theorem keepsCarry_ld (dst src : Reg8) : (Instr.ld dst src).keepsCarry = false := by cases dst <;> cases src <;> rfl
@[simp] theorem keepsCarry_ldFromHL (r : Reg8) : (Instr.ldFromHL r).keepsCarry = false := by cases r <;> rfl
@[simp] theorem keepsCarry_ldToHL (r : Reg8) : (Instr.ldToHL r).keepsCarry = false := by cases r <;> rfl
@[simp] theorem keepsCarry_ldImm (r : Reg8) (n : Byte) : (Instr.ldImm r n).keepsCarry = false := by cases r <;> rfl
@[simp] theorem keepsCarry_ldPair (p : Pair) (nn : Word) : (Instr.ldPair p nn).keepsCarry = false := by cases p <;> rfl
@[simp] theorem keepsCarry_inc (r : Reg8) : (Instr.inc r).keepsCarry = true := by cases r <;> rfl
@[simp] theorem keepsCarry_dec (r : Reg8) : (Instr.dec r).keepsCarry = true := by cases r <;> rfl
@[simp] theorem keepsCarry_incPair (p : Pair) : (Instr.incPair p).keepsCarry = false := by cases p <;> rfl
@[simp] theorem keepsCarry_decPair (p : Pair) : (Instr.decPair p).keepsCarry = false := by cases p <;> rfl
@[simp] theorem keepsCarry_alu (op : AluOp) (r : Reg8) : (Instr.alu op r).keepsCarry = false := by
  cases op <;> cases r <;> rfl
@[simp] theorem keepsCarry_aluAtHL (op : AluOp) : (Instr.aluAtHL op).keepsCarry = false := by cases op <;> rfl
@[simp] theorem keepsCarry_aluImm (op : AluOp) (n : Byte) : (Instr.aluImm op n).keepsCarry = false := by cases op <;> rfl
@[simp] theorem keepsCarry_addHL (p : Pair) : (Instr.addHL p).keepsCarry = false := by cases p <;> rfl
@[simp] theorem keepsCarry_jr (cc : Cond) (e : Byte) : (Instr.jr cc e).keepsCarry = false := by cases cc <;> rfl

/-! ### `Instr.writesSP` -/

@[simp] theorem writesSP_ld (dst src : Reg8) : (Instr.ld dst src).writesSP = false := by cases dst <;> cases src <;> rfl
@[simp] theorem writesSP_ldFromHL (r : Reg8) : (Instr.ldFromHL r).writesSP = false := by cases r <;> rfl
@[simp] theorem writesSP_ldToHL (r : Reg8) : (Instr.ldToHL r).writesSP = false := by cases r <;> rfl
@[simp] theorem writesSP_ldImm (r : Reg8) (n : Byte) : (Instr.ldImm r n).writesSP = false := by cases r <;> rfl
@[simp] theorem writesSP_ldPair (p : Pair) (nn : Word) : (Instr.ldPair p nn).writesSP = (p == .sp) := by cases p <;> rfl
@[simp] theorem writesSP_inc (r : Reg8) : (Instr.inc r).writesSP = false := by cases r <;> rfl
@[simp] theorem writesSP_dec (r : Reg8) : (Instr.dec r).writesSP = false := by cases r <;> rfl
@[simp] theorem writesSP_incPair (p : Pair) : (Instr.incPair p).writesSP = (p == .sp) := by cases p <;> rfl
@[simp] theorem writesSP_decPair (p : Pair) : (Instr.decPair p).writesSP = (p == .sp) := by cases p <;> rfl
@[simp] theorem writesSP_alu (op : AluOp) (r : Reg8) : (Instr.alu op r).writesSP = false := by cases op <;> cases r <;> rfl
@[simp] theorem writesSP_aluAtHL (op : AluOp) : (Instr.aluAtHL op).writesSP = false := by cases op <;> rfl
@[simp] theorem writesSP_aluImm (op : AluOp) (n : Byte) : (Instr.aluImm op n).writesSP = false := by cases op <;> rfl
@[simp] theorem writesSP_addHL (p : Pair) : (Instr.addHL p).writesSP = false := by cases p <;> rfl
@[simp] theorem writesSP_jr (cc : Cond) (e : Byte) : (Instr.jr cc e).writesSP = false := by cases cc <;> rfl

/-! ### `Instr.writesIME` -/

@[simp] theorem writesIME_ld (dst src : Reg8) : (Instr.ld dst src).writesIME = false := by cases dst <;> cases src <;> rfl
@[simp] theorem writesIME_ldFromHL (r : Reg8) : (Instr.ldFromHL r).writesIME = false := by cases r <;> rfl
@[simp] theorem writesIME_ldToHL (r : Reg8) : (Instr.ldToHL r).writesIME = false := by cases r <;> rfl
@[simp] theorem writesIME_ldImm (r : Reg8) (n : Byte) : (Instr.ldImm r n).writesIME = false := by cases r <;> rfl
@[simp] theorem writesIME_ldPair (p : Pair) (nn : Word) : (Instr.ldPair p nn).writesIME = false := by cases p <;> rfl
@[simp] theorem writesIME_inc (r : Reg8) : (Instr.inc r).writesIME = false := by cases r <;> rfl
@[simp] theorem writesIME_dec (r : Reg8) : (Instr.dec r).writesIME = false := by cases r <;> rfl
@[simp] theorem writesIME_incPair (p : Pair) : (Instr.incPair p).writesIME = false := by cases p <;> rfl
@[simp] theorem writesIME_decPair (p : Pair) : (Instr.decPair p).writesIME = false := by cases p <;> rfl
@[simp] theorem writesIME_alu (op : AluOp) (r : Reg8) : (Instr.alu op r).writesIME = false := by cases op <;> cases r <;> rfl
@[simp] theorem writesIME_aluAtHL (op : AluOp) : (Instr.aluAtHL op).writesIME = false := by cases op <;> rfl
@[simp] theorem writesIME_aluImm (op : AluOp) (n : Byte) : (Instr.aluImm op n).writesIME = false := by cases op <;> rfl
@[simp] theorem writesIME_addHL (p : Pair) : (Instr.addHL p).writesIME = false := by cases p <;> rfl
@[simp] theorem writesIME_jr (cc : Cond) (e : Byte) : (Instr.jr cc e).writesIME = false := by cases cc <;> rfl

/-! ### `Instr.isUndefined` -/

@[simp] theorem isUndefined_ld (dst src : Reg8) : (Instr.ld dst src).isUndefined = false := by
  cases dst <;> cases src <;> rfl
@[simp] theorem isUndefined_ldFromHL (r : Reg8) : (Instr.ldFromHL r).isUndefined = false := by cases r <;> rfl
@[simp] theorem isUndefined_ldToHL (r : Reg8) : (Instr.ldToHL r).isUndefined = false := by cases r <;> rfl
@[simp] theorem isUndefined_ldImm (r : Reg8) (n : Byte) : (Instr.ldImm r n).isUndefined = false := by cases r <;> rfl
@[simp] theorem isUndefined_ldPair (p : Pair) (nn : Word) : (Instr.ldPair p nn).isUndefined = false := by cases p <;> rfl
@[simp] theorem isUndefined_inc (r : Reg8) : (Instr.inc r).isUndefined = false := by cases r <;> rfl
@[simp] theorem isUndefined_dec (r : Reg8) : (Instr.dec r).isUndefined = false := by cases r <;> rfl
@[simp] theorem isUndefined_incPair (p : Pair) : (Instr.incPair p).isUndefined = false := by cases p <;> rfl
@[simp] theorem isUndefined_decPair (p : Pair) : (Instr.decPair p).isUndefined = false := by cases p <;> rfl
@[simp] theorem isUndefined_alu (op : AluOp) (r : Reg8) : (Instr.alu op r).isUndefined = false := by
  cases op <;> cases r <;> rfl
@[simp] theorem isUndefined_aluAtHL (op : AluOp) : (Instr.aluAtHL op).isUndefined = false := by cases op <;> rfl
@[simp] theorem isUndefined_aluImm (op : AluOp) (n : Byte) : (Instr.aluImm op n).isUndefined = false := by cases op <;> rfl
@[simp] theorem isUndefined_addHL (p : Pair) : (Instr.addHL p).isUndefined = false := by cases p <;> rfl
@[simp] theorem isUndefined_jr (cc : Cond) (e : Byte) : (Instr.jr cc e).isUndefined = false := by cases cc <;> rfl

namespace Machine

/-! ### `storeAddr` -/

@[simp] theorem storeAddr_ld (dst src : Reg8) (s : State) : storeAddr (Instr.ld dst src) s = none := by
  cases dst <;> cases src <;> rfl
@[simp] theorem storeAddr_ldFromHL (r : Reg8) (s : State) : storeAddr (Instr.ldFromHL r) s = none := by cases r <;> rfl
@[simp] theorem storeAddr_ldToHL (r : Reg8) (s : State) : storeAddr (Instr.ldToHL r) s = some s.hl := by cases r <;> rfl
@[simp] theorem storeAddr_ldImm (r : Reg8) (n : Byte) (s : State) : storeAddr (Instr.ldImm r n) s = none := by
  cases r <;> rfl
@[simp] theorem storeAddr_ldPair (p : Pair) (nn : Word) (s : State) : storeAddr (Instr.ldPair p nn) s = none := by
  cases p <;> rfl
@[simp] theorem storeAddr_inc (r : Reg8) (s : State) : storeAddr (Instr.inc r) s = none := by cases r <;> rfl
@[simp] theorem storeAddr_dec (r : Reg8) (s : State) : storeAddr (Instr.dec r) s = none := by cases r <;> rfl
@[simp] theorem storeAddr_incPair (p : Pair) (s : State) : storeAddr (Instr.incPair p) s = none := by cases p <;> rfl
@[simp] theorem storeAddr_decPair (p : Pair) (s : State) : storeAddr (Instr.decPair p) s = none := by cases p <;> rfl
@[simp] theorem storeAddr_alu (op : AluOp) (r : Reg8) (s : State) : storeAddr (Instr.alu op r) s = none := by
  cases op <;> cases r <;> rfl
@[simp] theorem storeAddr_aluAtHL (op : AluOp) (s : State) : storeAddr (Instr.aluAtHL op) s = none := by cases op <;> rfl
@[simp] theorem storeAddr_aluImm (op : AluOp) (n : Byte) (s : State) : storeAddr (Instr.aluImm op n) s = none := by
  cases op <;> rfl
@[simp] theorem storeAddr_addHL (p : Pair) (s : State) : storeAddr (Instr.addHL p) s = none := by cases p <;> rfl
@[simp] theorem storeAddr_jr (cc : Cond) (e : Byte) (s : State) : storeAddr (Instr.jr cc e) s = none := by cases cc <;> rfl

/-! ### `loadAddr` -/

@[simp] theorem loadAddr_ld (dst src : Reg8) (s : State) : loadAddr (Instr.ld dst src) s = none := by
  cases dst <;> cases src <;> rfl
@[simp] theorem loadAddr_ldFromHL (r : Reg8) (s : State) : loadAddr (Instr.ldFromHL r) s = some s.hl := by cases r <;> rfl
@[simp] theorem loadAddr_ldToHL (r : Reg8) (s : State) : loadAddr (Instr.ldToHL r) s = none := by cases r <;> rfl
@[simp] theorem loadAddr_ldImm (r : Reg8) (n : Byte) (s : State) : loadAddr (Instr.ldImm r n) s = none := by cases r <;> rfl
@[simp] theorem loadAddr_ldPair (p : Pair) (nn : Word) (s : State) : loadAddr (Instr.ldPair p nn) s = none := by
  cases p <;> rfl
@[simp] theorem loadAddr_inc (r : Reg8) (s : State) : loadAddr (Instr.inc r) s = none := by cases r <;> rfl
@[simp] theorem loadAddr_dec (r : Reg8) (s : State) : loadAddr (Instr.dec r) s = none := by cases r <;> rfl
@[simp] theorem loadAddr_incPair (p : Pair) (s : State) : loadAddr (Instr.incPair p) s = none := by cases p <;> rfl
@[simp] theorem loadAddr_decPair (p : Pair) (s : State) : loadAddr (Instr.decPair p) s = none := by cases p <;> rfl
@[simp] theorem loadAddr_alu (op : AluOp) (r : Reg8) (s : State) : loadAddr (Instr.alu op r) s = none := by
  cases op <;> cases r <;> rfl
@[simp] theorem loadAddr_aluAtHL (op : AluOp) (s : State) : loadAddr (Instr.aluAtHL op) s = some s.hl := by cases op <;> rfl
@[simp] theorem loadAddr_aluImm (op : AluOp) (n : Byte) (s : State) : loadAddr (Instr.aluImm op n) s = none := by
  cases op <;> rfl
@[simp] theorem loadAddr_addHL (p : Pair) (s : State) : loadAddr (Instr.addHL p) s = none := by cases p <;> rfl
@[simp] theorem loadAddr_jr (cc : Cond) (e : Byte) (s : State) : loadAddr (Instr.jr cc e) s = none := by cases cc <;> rfl

/-- A pair write reaches its own halves only. -/
theorem reg_setPair_of_not_mem (s : State) (p : Pair) (v : Word) (r : Reg8) (h : r ∉ p.halves) :
    (s.setPair p v).reg r = s.reg r := by
  cases p <;> cases r <;> first | rfl | exact absurd (by simp [Pair.halves]) h

end Machine

end Sys2Proof
end

