-- ==== Sys2Proof/Laws/Decode.lean ====
section
/-! SUPPORT. Byte order and the decoder's small lemmas (spec/20_memory.md R56, 30_encoding.md R70, R76, R85). -/
namespace Sys2Proof

/-- The numeric value of a word is 256 times its high byte plus its low byte (spec/00_scope.md R11). -/
theorem wordOf_toNat (hi lo : Byte) : (wordOf hi lo).toNat = hi.toNat * 256 + lo.toNat := by
  unfold wordOf
  rw [BitVec.toNat_append, ← Nat.shiftLeft_add_eq_or_of_lt lo.isLt, Nat.shiftLeft_eq]

theorem hiByte_toNat (w : Word) : (hiByte w).toNat = w.toNat / 256 := by
  have := w.isLt
  simp only [hiByte, BitVec.extractLsb'_toNat, Nat.shiftRight_eq_div_pow]
  omega

theorem loByte_toNat (w : Word) : (loByte w).toNat = w.toNat % 256 := by
  simp only [loByte, BitVec.extractLsb'_toNat, Nat.shiftRight_eq_div_pow]
  omega

@[simp] theorem wordOf_halves (w : Word) : wordOf (hiByte w) (loByte w) = w :=
  BitVec.eq_of_toNat_eq (by rw [wordOf_toNat, hiByte_toNat, loByte_toNat]; omega)

@[simp] theorem hiByte_wordOf (hi lo : Byte) : hiByte (wordOf hi lo) = hi :=
  BitVec.eq_of_toNat_eq (by rw [hiByte_toNat, wordOf_toNat]; have := lo.isLt; omega)

@[simp] theorem loByte_wordOf (hi lo : Byte) : loByte (wordOf hi lo) = lo :=
  BitVec.eq_of_toNat_eq (by rw [loByte_toNat, wordOf_toNat]; have := lo.isLt; omega)

/-- Decoding, by the slot of the opcode. -/
theorem decode_cons (op : Byte) (rest : List Byte) :
    decode (op :: rest) =
      match slot op, rest with
      | .unpopulated, _ => .ok (.undefined op, rest)
      | .alone i, _ => .ok (i, rest)
      | .withByte f, n :: rest' => .ok (f n, rest')
      | .withByte _, [] => .error (.missingOperand op 1 0)
      | .withWord f, lo :: hi :: rest' => .ok (f (wordOf hi lo), rest')
      | .withWord _, short => .error (.missingOperand op 2 short.length) := rfl

end Sys2Proof
end

