-- ==== Sys2Proof/Laws/Ops.lean ====
section
/-! SUPPORT. One lemma for each shared operation: everything it can do. The register file never refuses an index that the decoder's
fields give (spec/30_encoding.md R72, R73). -/
namespace Sys2Proof.Machine

@[simp] theorem read8_index (s : State) (r : Reg8) : read8 s r.index = .ok (s.reg r) := by cases r <;> rfl

@[simp] theorem write8_index (s : State) (r : Reg8) (v : Byte) : write8 s r.index v = .ok (s.setReg r v) := by
  cases r <;> rfl

@[simp] theorem readPair_eq (s : State) (p : Pair) : readPair s p = .ok (s.pair p) := by cases p <;> rfl

@[simp] theorem writePair_eq (s : State) (p : Pair) (v : Word) : writePair s p v = .ok (s.setPair p v) := by
  cases p <;> rfl

@[simp] theorem orRaise_ok {α : Type} (s : State) (v : α) (k : α → Out) : orRaise s (.ok v) k = k v := rfl

@[simp] theorem orRaise_error {α : Type} (s : State) (e : Fault) (k : α → Out) :
    orRaise s (.error e) k = raise e s := rfl

@[simp] theorem withReg_eq (s : State) (r : Reg8) (k : Byte → Out) : withReg s r k = k (s.reg r) := by
  simp [withReg]

@[simp] theorem intoReg_eq (s0 s : State) (r : Reg8) (v : Byte) (k : State → Out) :
    intoReg s0 s r v k = k (s.setReg r v) := by
  simp [intoReg]

@[simp] theorem withPair_eq (s : State) (p : Pair) (k : Word → Out) : withPair s p k = k (s.pair p) := by
  simp [withPair]

@[simp] theorem intoPair_eq (s0 s : State) (p : Pair) (v : Word) (k : State → Out) :
    intoPair s0 s p v k = k (s.setPair p v) := by
  simp [intoPair]

@[simp] theorem withByteAt_eq (s : State) (a : Word) (k : Byte → State → Out) :
    withByteAt s a k = k (busAnswer s a) (s.record (.readByte a (busAnswer s a))) := rfl

/-- Ending an instruction always answers a next state, and changes the pc and the cycle total only. -/
theorem finish_eq (pc : Word) (cost : Nat) (s : State) :
    finish pc cost s = .next { s with pc := pc, cyclesTotal := addCycles s.params s.cyclesTotal cost } := rfl

/-- `advance`, likewise. -/
theorem advance_eq (op : Byte) (len : Nat) (s : State) :
    advance op len s =
      .next { s with pc := s.pc + BitVec.ofNat 16 len,
                     cyclesTotal := addCycles s.params s.cyclesTotal (cyclesOf s.params op) } := rfl

/-- Taking a fault answers the Faulted state with its record, and changes nothing else (60_exceptions.md R253). -/
theorem raise_eq (r : Fault) (s : State) : raise r s = .next { s with run := .faulted, fault := some r } := rfl

/-- With the unbounded counter the cycle total grows by the cost plus one (70_reset_and_hazards.md R289). -/
theorem addCycles_unbounded (p : Params) (total cost : Nat) (h : p.cycleWidth = none) :
    addCycles p total cost = total + cost + 1 := by
  simp [addCycles, h]

/-- Under flat RAM a read answers the byte that memory holds (20_memory.md R67). -/
theorem busAnswer_flatRam (s : State) (a : Word) (h : s.params.memModel = .flatRam) :
    busAnswer s a = Memory.read s.mem a.toNat := by
  simp [busAnswer, h]

/-- Under the oracle a read answers a free value (20_memory.md R67). -/
theorem busAnswer_oracle (s : State) (a : Word) (h : s.params.memModel = .oracle) :
    busAnswer s a = Config.oracleByte s.history a := by
  simp [busAnswer, h]

/-- Under flat RAM a word read answers the two bytes that memory holds, low byte first (20_memory.md R53). -/
theorem busAnswerWord_flatRam (s : State) (a : Word) (h : s.params.memModel = .flatRam) :
    busAnswerWord s a = wordOf (Memory.read s.mem (a + 1).toNat) (Memory.read s.mem a.toNat) := by
  simp [busAnswerWord, busAnswer, State.record, h]

end Sys2Proof.Machine
end

