-- ==== Sys2Proof/Laws/Meanings.lean ====
section
/-! SUPPORT. One lemma for each shared meaning of a family: what it does, without the register file's unreachable fault. -/
namespace Sys2Proof.Machine

theorem moveReg_eq (op : Byte) (dst src : Reg8) (s : State) :
    moveReg op dst src s = advance op 1 (s.setReg dst (s.reg src)) := by simp [moveReg]

theorem loadRegFromHL_eq (op : Byte) (dst : Reg8) (s : State) :
    loadRegFromHL op dst s =
      advance op 1 ((s.record (.readByte s.hl (busAnswer s s.hl))).setReg dst (busAnswer s s.hl)) := by
  simp [loadRegFromHL]

theorem storeRegToHL_eq (op : Byte) (src : Reg8) (s : State) :
    storeRegToHL op src s = advance op 1 (writeByte s s.hl (s.reg src)) := by simp [storeRegToHL]

theorem loadRegImm_eq (op : Byte) (dst : Reg8) (n : Byte) (s : State) :
    loadRegImm op dst n s = advance op 2 (s.setReg dst n) := by simp [loadRegImm]

theorem loadPairImm_eq (op : Byte) (p : Pair) (nn : Word) (s : State) :
    loadPairImm op p nn s = advance op 3 (s.setPair p nn) := by simp [loadPairImm]

theorem incReg_eq (op : Byte) (dst : Reg8) (s : State) :
    incReg op dst s =
      advance op 1 { s.setReg dst (flagINC (s.reg dst) (flagC s.f)).1 with
        f := packFlags (flagINC (s.reg dst) (flagC s.f)).2 } := by simp [incReg]

theorem decReg_eq (op : Byte) (dst : Reg8) (s : State) :
    decReg op dst s =
      advance op 1 { s.setReg dst (flagDEC (s.reg dst) (flagC s.f)).1 with
        f := packFlags (flagDEC (s.reg dst) (flagC s.f)).2 } := by simp [decReg]

theorem incPairBy1_eq (op : Byte) (p : Pair) (s : State) :
    incPairBy1 op p s = advance op 1 (s.setPair p (s.pair p + 1)) := by simp [incPairBy1]

theorem decPairBy1_eq (op : Byte) (p : Pair) (s : State) :
    decPairBy1 op p s = advance op 1 (s.setPair p (s.pair p - 1)) := by simp [decPairBy1]

theorem aluReg_eq (code : Byte) (op : AluOp) (r : Reg8) (s : State) :
    aluReg code op r s = advance code 1 (aluWrite op (s.reg r) s) := by simp [aluReg]

theorem aluAtHL_eq (code : Byte) (op : AluOp) (s : State) :
    aluAtHL code op s =
      advance code 1 (aluWrite op (busAnswer s s.hl) (s.record (.readByte s.hl (busAnswer s s.hl)))) := by
  simp [aluAtHL]

theorem addToHL_eq (code : Byte) (p : Pair) (s : State) :
    addToHL code p s =
      advance code 1 { s.setPair .hl (flagADD16 s.params.add16Z s.hl (s.pair p) (flagZ s.f)).1 with
        f := packFlags (flagADD16 s.params.add16Z s.hl (s.pair p) (flagZ s.f)).2 } := by simp [addToHL]

theorem loadA_eq (op : Byte) (len : Nat) (addr : Word) (s : State) :
    loadA op len addr s =
      advance op len { s.record (.readByte addr (busAnswer s addr)) with a := busAnswer s addr } := by
  simp [loadA, State.setReg]

theorem storeAThenHL_eq (op : Byte) (next : Word) (s : State) :
    storeAThenHL op next s = advance op 1 ((writeByte s s.hl s.a).setPair .hl next) := by simp [storeAThenHL]

theorem loadAThenHL_eq (op : Byte) (next : Word) (s : State) :
    loadAThenHL op next s =
      advance op 1 (State.setPair { s.record (.readByte s.hl (busAnswer s s.hl)) with a := busAnswer s s.hl } .hl next) := by
  simp [loadAThenHL, State.setReg]

/-- What the ALU writes: A, but for CP, and F. -/
theorem aluWrite_eq (op : AluOp) (b : Byte) (s : State) :
    aluWrite op b s =
      { s with
        a := if op = .cp then s.a else (aluResult s.params op s.a b (flagC s.f)).1
        f := packFlags (aluResult s.params op s.a b (flagC s.f)).2 } := by
  cases op <;> rfl

end Sys2Proof.Machine
end

