-- ==== Sys2Proof/Laws/Families.lean ====
section
/-! SUPPORT. The instructions by family: a case analysis with one case for each family instead of one for each constructor, and what
exec calls for each family. -/
namespace Sys2Proof

/-- A property of every instruction, proved family by family. -/
theorem Instr.byFamily {P : Instr → Prop}
    (ld : ∀ dst src, P (Instr.ld dst src)) (ldFromHL : ∀ r, P (Instr.ldFromHL r)) (ldToHL : ∀ r, P (Instr.ldToHL r))
    (ldImm : ∀ r n, P (Instr.ldImm r n)) (ldPair : ∀ p nn, P (Instr.ldPair p nn)) (inc : ∀ r, P (Instr.inc r))
    (dec : ∀ r, P (Instr.dec r)) (incPair : ∀ p, P (Instr.incPair p)) (decPair : ∀ p, P (Instr.decPair p))
    (alu : ∀ op r, P (Instr.alu op r)) (aluAtHL : ∀ op, P (Instr.aluAtHL op)) (aluImm : ∀ op n, P (Instr.aluImm op n))
    (addHL : ∀ p, P (Instr.addHL p)) (jr : ∀ cc e, P (Instr.jr cc e))
    (nop : P .nop) (di : P .di) (ei : P .ei) (undefined : ∀ op, P (.undefined op))
    (jr_e : ∀ e, P (.jr_e e)) (jp_nn : ∀ nn, P (.jp_nn nn))
    (ld_at_hl_n : ∀ n, P (.ld_at_hl_n n)) (inc_at_hl : P .inc_at_hl) (dec_at_hl : P .dec_at_hl)
    (ld_at_bc_a : P .ld_at_bc_a) (ld_at_de_a : P .ld_at_de_a) (ld_at_hli_a : P .ld_at_hli_a)
    (ld_at_hld_a : P .ld_at_hld_a) (ld_a_at_bc : P .ld_a_at_bc) (ld_a_at_de : P .ld_a_at_de)
    (ld_a_at_hli : P .ld_a_at_hli) (ld_a_at_hld : P .ld_a_at_hld) (ldh_at_n_a : ∀ n, P (.ldh_at_n_a n))
    (ldh_a_at_n : ∀ n, P (.ldh_a_at_n n)) (ld_at_nn_a : ∀ nn, P (.ld_at_nn_a nn)) (ld_a_at_nn : ∀ nn, P (.ld_a_at_nn nn)) :
    ∀ i, P i := by
  intro i
  cases i with
  | nop => exact nop
  | di => exact di
  | ei => exact ei
  | undefined op => exact undefined op
  | jr_e e => exact jr_e e
  | jp_nn nn => exact jp_nn nn
  | ld_at_hl_n n => exact ld_at_hl_n n
  | inc_at_hl => exact inc_at_hl
  | dec_at_hl => exact dec_at_hl
  | ld_at_bc_a => exact ld_at_bc_a
  | ld_at_de_a => exact ld_at_de_a
  | ld_at_hli_a => exact ld_at_hli_a
  | ld_at_hld_a => exact ld_at_hld_a
  | ld_a_at_bc => exact ld_a_at_bc
  | ld_a_at_de => exact ld_a_at_de
  | ld_a_at_hli => exact ld_a_at_hli
  | ld_a_at_hld => exact ld_a_at_hld
  | ldh_at_n_a n => exact ldh_at_n_a n
  | ldh_a_at_n n => exact ldh_a_at_n n
  | ld_at_nn_a nn => exact ld_at_nn_a nn
  | ld_a_at_nn nn => exact ld_a_at_nn nn
  | jr_nz_e e => exact jr .nz e
  | jr_z_e e => exact jr .z e
  | jr_nc_e e => exact jr .nc e
  | jr_c_e e => exact jr .c e
  | ld_b_b => exact ld .b .b
  | ld_b_c => exact ld .b .c
  | ld_b_d => exact ld .b .d
  | ld_b_e => exact ld .b .e
  | ld_b_h => exact ld .b .h
  | ld_b_l => exact ld .b .l
  | ld_b_a => exact ld .b .a
  | ld_c_b => exact ld .c .b
  | ld_c_c => exact ld .c .c
  | ld_c_d => exact ld .c .d
  | ld_c_e => exact ld .c .e
  | ld_c_h => exact ld .c .h
  | ld_c_l => exact ld .c .l
  | ld_c_a => exact ld .c .a
  | ld_d_b => exact ld .d .b
  | ld_d_c => exact ld .d .c
  | ld_d_d => exact ld .d .d
  | ld_d_e => exact ld .d .e
  | ld_d_h => exact ld .d .h
  | ld_d_l => exact ld .d .l
  | ld_d_a => exact ld .d .a
  | ld_e_b => exact ld .e .b
  | ld_e_c => exact ld .e .c
  | ld_e_d => exact ld .e .d
  | ld_e_e => exact ld .e .e
  | ld_e_h => exact ld .e .h
  | ld_e_l => exact ld .e .l
  | ld_e_a => exact ld .e .a
  | ld_h_b => exact ld .h .b
  | ld_h_c => exact ld .h .c
  | ld_h_d => exact ld .h .d
  | ld_h_e => exact ld .h .e
  | ld_h_h => exact ld .h .h
  | ld_h_l => exact ld .h .l
  | ld_h_a => exact ld .h .a
  | ld_l_b => exact ld .l .b
  | ld_l_c => exact ld .l .c
  | ld_l_d => exact ld .l .d
  | ld_l_e => exact ld .l .e
  | ld_l_h => exact ld .l .h
  | ld_l_l => exact ld .l .l
  | ld_l_a => exact ld .l .a
  | ld_a_b => exact ld .a .b
  | ld_a_c => exact ld .a .c
  | ld_a_d => exact ld .a .d
  | ld_a_e => exact ld .a .e
  | ld_a_h => exact ld .a .h
  | ld_a_l => exact ld .a .l
  | ld_a_a => exact ld .a .a
  | ld_b_at_hl => exact ldFromHL .b
  | ld_c_at_hl => exact ldFromHL .c
  | ld_d_at_hl => exact ldFromHL .d
  | ld_e_at_hl => exact ldFromHL .e
  | ld_h_at_hl => exact ldFromHL .h
  | ld_l_at_hl => exact ldFromHL .l
  | ld_a_at_hl => exact ldFromHL .a
  | ld_at_hl_b => exact ldToHL .b
  | ld_at_hl_c => exact ldToHL .c
  | ld_at_hl_d => exact ldToHL .d
  | ld_at_hl_e => exact ldToHL .e
  | ld_at_hl_h => exact ldToHL .h
  | ld_at_hl_l => exact ldToHL .l
  | ld_at_hl_a => exact ldToHL .a
  | ld_b_n n => exact ldImm .b n
  | ld_c_n n => exact ldImm .c n
  | ld_d_n n => exact ldImm .d n
  | ld_e_n n => exact ldImm .e n
  | ld_h_n n => exact ldImm .h n
  | ld_l_n n => exact ldImm .l n
  | ld_a_n n => exact ldImm .a n
  | ld_bc_nn nn => exact ldPair .bc nn
  | ld_de_nn nn => exact ldPair .de nn
  | ld_hl_nn nn => exact ldPair .hl nn
  | ld_sp_nn nn => exact ldPair .sp nn
  | inc_b => exact inc .b
  | inc_c => exact inc .c
  | inc_d => exact inc .d
  | inc_e => exact inc .e
  | inc_h => exact inc .h
  | inc_l => exact inc .l
  | inc_a => exact inc .a
  | dec_b => exact dec .b
  | dec_c => exact dec .c
  | dec_d => exact dec .d
  | dec_e => exact dec .e
  | dec_h => exact dec .h
  | dec_l => exact dec .l
  | dec_a => exact dec .a
  | inc_bc => exact incPair .bc
  | inc_de => exact incPair .de
  | inc_hl => exact incPair .hl
  | inc_sp => exact incPair .sp
  | dec_bc => exact decPair .bc
  | dec_de => exact decPair .de
  | dec_hl => exact decPair .hl
  | dec_sp => exact decPair .sp
  | add_a_b => exact alu .add .b
  | add_a_c => exact alu .add .c
  | add_a_d => exact alu .add .d
  | add_a_e => exact alu .add .e
  | add_a_h => exact alu .add .h
  | add_a_l => exact alu .add .l
  | add_a_a => exact alu .add .a
  | adc_a_b => exact alu .adc .b
  | adc_a_c => exact alu .adc .c
  | adc_a_d => exact alu .adc .d
  | adc_a_e => exact alu .adc .e
  | adc_a_h => exact alu .adc .h
  | adc_a_l => exact alu .adc .l
  | adc_a_a => exact alu .adc .a
  | sub_b => exact alu .sub .b
  | sub_c => exact alu .sub .c
  | sub_d => exact alu .sub .d
  | sub_e => exact alu .sub .e
  | sub_h => exact alu .sub .h
  | sub_l => exact alu .sub .l
  | sub_a => exact alu .sub .a
  | sbc_a_b => exact alu .sbc .b
  | sbc_a_c => exact alu .sbc .c
  | sbc_a_d => exact alu .sbc .d
  | sbc_a_e => exact alu .sbc .e
  | sbc_a_h => exact alu .sbc .h
  | sbc_a_l => exact alu .sbc .l
  | sbc_a_a => exact alu .sbc .a
  | and_b => exact alu .and .b
  | and_c => exact alu .and .c
  | and_d => exact alu .and .d
  | and_e => exact alu .and .e
  | and_h => exact alu .and .h
  | and_l => exact alu .and .l
  | and_a => exact alu .and .a
  | xor_b => exact alu .xor .b
  | xor_c => exact alu .xor .c
  | xor_d => exact alu .xor .d
  | xor_e => exact alu .xor .e
  | xor_h => exact alu .xor .h
  | xor_l => exact alu .xor .l
  | xor_a => exact alu .xor .a
  | or_b => exact alu .or .b
  | or_c => exact alu .or .c
  | or_d => exact alu .or .d
  | or_e => exact alu .or .e
  | or_h => exact alu .or .h
  | or_l => exact alu .or .l
  | or_a => exact alu .or .a
  | cp_b => exact alu .cp .b
  | cp_c => exact alu .cp .c
  | cp_d => exact alu .cp .d
  | cp_e => exact alu .cp .e
  | cp_h => exact alu .cp .h
  | cp_l => exact alu .cp .l
  | cp_a => exact alu .cp .a
  | add_a_at_hl => exact aluAtHL .add
  | adc_a_at_hl => exact aluAtHL .adc
  | sub_at_hl => exact aluAtHL .sub
  | sbc_a_at_hl => exact aluAtHL .sbc
  | and_at_hl => exact aluAtHL .and
  | xor_at_hl => exact aluAtHL .xor
  | or_at_hl => exact aluAtHL .or
  | cp_at_hl => exact aluAtHL .cp
  | add_a_n n => exact aluImm .add n
  | adc_a_n n => exact aluImm .adc n
  | sub_n n => exact aluImm .sub n
  | sbc_a_n n => exact aluImm .sbc n
  | and_n n => exact aluImm .and n
  | xor_n n => exact aluImm .xor n
  | or_n n => exact aluImm .or n
  | cp_n n => exact aluImm .cp n
  | add_hl_bc => exact addHL .bc
  | add_hl_de => exact addHL .de
  | add_hl_hl => exact addHL .hl
  | add_hl_sp => exact addHL .sp

namespace Machine

theorem exec_ld (dst src : Reg8) (s : State) :
    exec (Instr.ld dst src) s = moveReg (Instr.ld dst src).opcode dst src s := by cases dst <;> cases src <;> rfl

theorem exec_ldFromHL (r : Reg8) (s : State) :
    exec (Instr.ldFromHL r) s = loadRegFromHL (Instr.ldFromHL r).opcode r s := by cases r <;> rfl

theorem exec_ldToHL (r : Reg8) (s : State) :
    exec (Instr.ldToHL r) s = storeRegToHL (Instr.ldToHL r).opcode r s := by cases r <;> rfl

theorem exec_ldImm (r : Reg8) (n : Byte) (s : State) :
    exec (Instr.ldImm r n) s = loadRegImm (Instr.ldImm r n).opcode r n s := by cases r <;> rfl

theorem exec_ldPair (p : Pair) (nn : Word) (s : State) :
    exec (Instr.ldPair p nn) s = loadPairImm (Instr.ldPair p nn).opcode p nn s := by cases p <;> rfl

theorem exec_inc (r : Reg8) (s : State) : exec (Instr.inc r) s = incReg (Instr.inc r).opcode r s := by cases r <;> rfl

theorem exec_dec (r : Reg8) (s : State) : exec (Instr.dec r) s = decReg (Instr.dec r).opcode r s := by cases r <;> rfl

theorem exec_incPair (p : Pair) (s : State) :
    exec (Instr.incPair p) s = incPairBy1 (Instr.incPair p).opcode p s := by cases p <;> rfl

theorem exec_decPair (p : Pair) (s : State) :
    exec (Instr.decPair p) s = decPairBy1 (Instr.decPair p).opcode p s := by cases p <;> rfl

theorem exec_alu (op : AluOp) (r : Reg8) (s : State) :
    exec (Instr.alu op r) s = aluReg (Instr.alu op r).opcode op r s := by cases op <;> cases r <;> rfl

theorem exec_aluAtHL (op : AluOp) (s : State) :
    exec (Instr.aluAtHL op) s = aluAtHL (Instr.aluAtHL op).opcode op s := by cases op <;> rfl

theorem exec_aluImm (op : AluOp) (n : Byte) (s : State) :
    exec (Instr.aluImm op n) s = aluImm (Instr.aluImm op n).opcode op n s := by cases op <;> rfl

theorem exec_addHL (p : Pair) (s : State) :
    exec (Instr.addHL p) s = addToHL (Instr.addHL p).opcode p s := by cases p <;> rfl

theorem exec_jr (cc : Cond) (e : Byte) (s : State) : exec (Instr.jr cc e) s = jumpIf cc e s := by cases cc <;> rfl

end Machine

end Sys2Proof
end

