-- ==== Sys2Proof/Laws/Flags.lean ====
section
/-! SUPPORT. Packing and unpacking the flags (spec/10_state.md R27, R28). -/
namespace Sys2Proof.Machine

/-- Every byte the flag algebra writes to F has a zero low nibble (R28). -/
@[simp] theorem flagsOk_pack (x : Flags) : flagsOk (packFlags x) = true := by
  obtain ⟨z, n, h, c⟩ := x
  cases z <;> cases n <;> cases h <;> cases c <;> rfl

@[simp] theorem flagZ_pack (x : Flags) : flagZ (packFlags x) = x.z := by
  obtain ⟨z, n, h, c⟩ := x
  cases z <;> cases n <;> cases h <;> cases c <;> rfl

@[simp] theorem flagN_pack (x : Flags) : flagN (packFlags x) = x.n := by
  obtain ⟨z, n, h, c⟩ := x
  cases z <;> cases n <;> cases h <;> cases c <;> rfl

@[simp] theorem flagH_pack (x : Flags) : flagH (packFlags x) = x.h := by
  obtain ⟨z, n, h, c⟩ := x
  cases z <;> cases n <;> cases h <;> cases c <;> rfl

@[simp] theorem flagC_pack (x : Flags) : flagC (packFlags x) = x.c := by
  obtain ⟨z, n, h, c⟩ := x
  cases z <;> cases n <;> cases h <;> cases c <;> rfl

end Sys2Proof.Machine
end

