-- ==== Sys2Proof/Laws/Memory.lean ====
section
/-! SUPPORT. The laws of flat RAM (spec/20_memory.md R67): a write is read back, it leaves every other address alone, and it keeps the
canonical form. -/
namespace Sys2Proof.Machine

/-- Below the first listed address nothing is listed. -/
theorem read_of_all_gt (m : Memory) (a : Nat) (h : ∀ x ∈ m, a < x.1) : Memory.read m a = Memory.unlisted := by
  induction m with
  | nil => rfl
  | cons x rest ih =>
    have hx := h x (by simp)
    rw [Memory.read, if_neg (by omega)]
    exact ih fun y hy => h y (by simp [hy])

/-- What the canonical form says of a list with a first entry. -/
theorem wf_cons (k : Nat) (v : Byte) (rest : Memory) :
    Memory.wf ((k, v) :: rest) = true ↔
      k < 0x10000 ∧ v ≠ Memory.unlisted ∧ (∀ x ∈ rest, k < x.1) ∧ Memory.wf rest = true := by
  simp [Memory.wf, and_assoc]

/-- A read of another address than the one written gives what it gave before. -/
theorem read_write_other (m : Memory) (a b : Nat) (v : Byte) (h : b ≠ a) :
    Memory.read (Memory.write m a v) b = Memory.read m b := by
  induction m with
  | nil =>
    by_cases hv : v = Memory.unlisted
    · simp [Memory.write, hv]
    · simp [Memory.write, hv, Memory.read, Ne.symm h]
  | cons x rest ih =>
    obtain ⟨k, w⟩ := x
    simp only [Memory.write]
    split
    · split
      · rfl
      · simp [Memory.read, Ne.symm h]
    · split
      · next hk =>
        subst hk
        split <;> simp [Memory.read, Ne.symm h]
      · simp only [Memory.read, ih]

/-- A read of the address written gives the byte written, in canonical memory. -/
theorem read_write_same (m : Memory) (a : Nat) (v : Byte) (hm : Memory.wf m = true) :
    Memory.read (Memory.write m a v) a = v := by
  induction m with
  | nil =>
    by_cases hv : v = Memory.unlisted
    · simp [Memory.write, hv, Memory.read]
    · simp [Memory.write, hv, Memory.read]
  | cons x rest ih =>
    obtain ⟨k, w⟩ := x
    obtain ⟨-, -, hgt, hrest⟩ := (wf_cons k w rest).1 hm
    simp only [Memory.write]
    split
    · next hak =>
      split
      · next hv =>
        rw [hv]
        apply read_of_all_gt
        intro y hy
        rcases List.mem_cons.1 hy with rfl | hy
        · exact hak
        · exact Nat.lt_trans hak (hgt y hy)
      · simp [Memory.read]
    · split
      · next hk =>
        subst hk
        split
        · next hv => rw [hv]; exact read_of_all_gt rest a hgt
        · simp [Memory.read]
      · next hne =>
        rw [Memory.read, if_neg (by omega)]
        exact ih hrest

/-- Every entry after a write is an entry from before, or the one written. -/
theorem mem_write (m : Memory) (a : Nat) (v : Byte) (x : Nat × Byte) (h : x ∈ Memory.write m a v) :
    x ∈ m ∨ x.1 = a := by
  induction m with
  | nil =>
    by_cases hv : v = Memory.unlisted
    · simp [Memory.write, hv] at h
    · simp [Memory.write, hv] at h
      simp [h]
  | cons y rest ih =>
    obtain ⟨k, w⟩ := y
    simp only [Memory.write] at h
    split at h
    · split at h
      · exact .inl h
      · rcases List.mem_cons.1 h with rfl | h
        · exact .inr rfl
        · exact .inl h
    · split at h
      · split at h
        · exact .inl (List.mem_cons_of_mem _ h)
        · rcases List.mem_cons.1 h with rfl | h
          · exact .inr rfl
          · exact .inl (List.mem_cons_of_mem _ h)
      · rcases List.mem_cons.1 h with rfl | h
        · exact .inl (by simp)
        · rcases ih h with h | h
          · exact .inl (List.mem_cons_of_mem _ h)
          · exact .inr h

/-- A write keeps the canonical form. -/
theorem write_wf (m : Memory) (a : Nat) (v : Byte) (ha : a < 0x10000) (hm : Memory.wf m = true) :
    Memory.wf (Memory.write m a v) = true := by
  induction m with
  | nil =>
    by_cases hv : v = Memory.unlisted
    · simp [Memory.write, hv, Memory.wf]
    · simp [Memory.write, hv, Memory.wf, ha]
  | cons x rest ih =>
    obtain ⟨k, w⟩ := x
    obtain ⟨hk, hw, hgt, hrest⟩ := (wf_cons k w rest).1 hm
    simp only [Memory.write]
    split
    · next hak =>
      split
      · exact hm
      · next hv =>
        refine (wf_cons a v _).2 ⟨ha, hv, ?_, hm⟩
        intro y hy
        rcases List.mem_cons.1 hy with rfl | hy
        · exact hak
        · exact Nat.lt_trans hak (hgt y hy)
    · split
      · next hk' =>
        subst hk'
        split
        · exact hrest
        · next hv => exact (wf_cons a v rest).2 ⟨ha, hv, hgt, hrest⟩
      · next hne =>
        refine (wf_cons k w _).2 ⟨hk, hw, ?_, ih hrest⟩
        intro y hy
        rcases mem_write rest a v y hy with hy | hy
        · exact hgt y hy
        · omega

/-- The operation of the memory interface that changes memory keeps its canonical form. -/
theorem writeByte_wf (s : State) (a : Word) (v : Byte) (h : Memory.wf s.mem = true) :
    Memory.wf (writeByte s a v).mem = true :=
  write_wf s.mem a.toNat v a.isLt h

/-- Reset memory is in canonical form. -/
theorem reset_mem_wf : Memory.wf State.reset.mem = true := rfl

end Sys2Proof.Machine
end

