-- ==== Sys2Proof/Laws/Slots.lean ====
section
/-! SUPPORT. What a slot of the dispatch table says, once for all 256 opcodes: the instruction it selects is well-formed and encodes to
the opcode and the operand (spec/30_encoding.md R77, R79, R81). -/
namespace Sys2Proof

/-- What the slot of an opcode selects. -/
def Slot.Spec (op : Byte) : Slot → Prop
  | .unpopulated => op ∈ undefinedOpcodes
  | .alone i => i.wellFormed = true ∧ i.isUndefined = false ∧ encode i = [op]
  | .withByte f => ∀ n, (f n).wellFormed = true ∧ (f n).isUndefined = false ∧ encode (f n) = [op, n]
  | .withWord f => ∀ nn, (f nn).wellFormed = true ∧ (f nn).isUndefined = false ∧ encode (f nn) = opWithWord op nn

theorem slot_spec_ofNat : ∀ k < 256, (slot (BitVec.ofNat 8 k)).Spec (BitVec.ofNat 8 k) := by
  intro k hk
  interval_cases k <;>
    first
    | exact And.intro rfl (And.intro rfl rfl)
    | exact fun _ => And.intro rfl (And.intro rfl rfl)
    | exact List.contains_iff_mem.1 rfl

/-- Every slot meets its specification. -/
theorem slot_spec (op : Byte) : (slot op).Spec op := by
  have h := slot_spec_ofNat op.toNat op.isLt
  rwa [BitVec.ofNat_toNat, BitVec.setWidth_eq] at h

/-- A listed opcode's slot is unpopulated (R81). -/
theorem slot_of_mem_undefined (op : Byte) (h : op ∈ undefinedOpcodes) : slot op = .unpopulated := by
  have all : ∀ op ∈ undefinedOpcodes, (match slot op with | .unpopulated => true | _ => false) = true := by decide
  have hop := all op h
  revert hop
  cases slot op <;> simp

end Sys2Proof
end

