-- ==== Sys2Proof/Laws/State.lean ====
section
/-! SUPPORT. One lemma for each field and each named update of the state, true by computation: later proofs cite these and unfold no
record update. -/
namespace Sys2Proof.Machine

/-! ### `State.setReg` -/

@[simp] theorem setReg_f (s : State) (r : Reg8) (v : Byte) : (s.setReg r v).f = s.f := by cases r <;> rfl
@[simp] theorem setReg_sp (s : State) (r : Reg8) (v : Byte) : (s.setReg r v).sp = s.sp := by cases r <;> rfl
@[simp] theorem setReg_pc (s : State) (r : Reg8) (v : Byte) : (s.setReg r v).pc = s.pc := by cases r <;> rfl
@[simp] theorem setReg_ime (s : State) (r : Reg8) (v : Byte) : (s.setReg r v).ime = s.ime := by cases r <;> rfl
@[simp] theorem setReg_ie (s : State) (r : Reg8) (v : Byte) : (s.setReg r v).ie = s.ie := by cases r <;> rfl
@[simp] theorem setReg_ifr (s : State) (r : Reg8) (v : Byte) : (s.setReg r v).ifr = s.ifr := by cases r <;> rfl
@[simp] theorem setReg_run (s : State) (r : Reg8) (v : Byte) : (s.setReg r v).run = s.run := by cases r <;> rfl
@[simp] theorem setReg_fault (s : State) (r : Reg8) (v : Byte) : (s.setReg r v).fault = s.fault := by cases r <;> rfl
@[simp] theorem setReg_cyclesTotal (s : State) (r : Reg8) (v : Byte) : (s.setReg r v).cyclesTotal = s.cyclesTotal := by cases r <;> rfl
@[simp] theorem setReg_mem (s : State) (r : Reg8) (v : Byte) : (s.setReg r v).mem = s.mem := by cases r <;> rfl
@[simp] theorem setReg_history (s : State) (r : Reg8) (v : Byte) : (s.setReg r v).history = s.history := by cases r <;> rfl
@[simp] theorem setReg_params (s : State) (r : Reg8) (v : Byte) : (s.setReg r v).params = s.params := by cases r <;> rfl

/-- A register write is seen by reads of that register and of no other (spec/10_state.md R22). -/
theorem reg_setReg (s : State) (r r' : Reg8) (v : Byte) : (s.setReg r v).reg r' = if r' = r then v else s.reg r' := by
  cases r <;> cases r' <;> rfl

@[simp] theorem reg_setReg_same (s : State) (r : Reg8) (v : Byte) : (s.setReg r v).reg r = v := by cases r <;> rfl

/-- Writing a register with the value it holds changes nothing. -/
@[simp] theorem setReg_reg (s : State) (r : Reg8) : s.setReg r (s.reg r) = s := by cases r <;> rfl

/-! ### `State.setPair` -/

@[simp] theorem setPair_a (s : State) (p : Pair) (v : Word) : (s.setPair p v).a = s.a := by cases p <;> rfl
@[simp] theorem setPair_f (s : State) (p : Pair) (v : Word) : (s.setPair p v).f = s.f := by cases p <;> rfl
@[simp] theorem setPair_pc (s : State) (p : Pair) (v : Word) : (s.setPair p v).pc = s.pc := by cases p <;> rfl
@[simp] theorem setPair_ime (s : State) (p : Pair) (v : Word) : (s.setPair p v).ime = s.ime := by cases p <;> rfl
@[simp] theorem setPair_ie (s : State) (p : Pair) (v : Word) : (s.setPair p v).ie = s.ie := by cases p <;> rfl
@[simp] theorem setPair_ifr (s : State) (p : Pair) (v : Word) : (s.setPair p v).ifr = s.ifr := by cases p <;> rfl
@[simp] theorem setPair_run (s : State) (p : Pair) (v : Word) : (s.setPair p v).run = s.run := by cases p <;> rfl
@[simp] theorem setPair_fault (s : State) (p : Pair) (v : Word) : (s.setPair p v).fault = s.fault := by cases p <;> rfl
@[simp] theorem setPair_cyclesTotal (s : State) (p : Pair) (v : Word) : (s.setPair p v).cyclesTotal = s.cyclesTotal := by cases p <;> rfl
@[simp] theorem setPair_mem (s : State) (p : Pair) (v : Word) : (s.setPair p v).mem = s.mem := by cases p <;> rfl
@[simp] theorem setPair_history (s : State) (p : Pair) (v : Word) : (s.setPair p v).history = s.history := by cases p <;> rfl
@[simp] theorem setPair_params (s : State) (p : Pair) (v : Word) : (s.setPair p v).params = s.params := by cases p <;> rfl

/-- A write of a pair leaves SP alone, unless the pair is SP (10_state.md R25). -/
theorem setPair_sp_of_ne (s : State) (p : Pair) (v : Word) (h : p ≠ .sp) : (s.setPair p v).sp = s.sp := by
  cases p <;> first | rfl | exact absurd rfl h

/-! ### `State.record` -/

@[simp] theorem record_a (s : State) (x : Access) : (s.record x).a = s.a := rfl
@[simp] theorem record_f (s : State) (x : Access) : (s.record x).f = s.f := rfl
@[simp] theorem record_b (s : State) (x : Access) : (s.record x).b = s.b := rfl
@[simp] theorem record_c (s : State) (x : Access) : (s.record x).c = s.c := rfl
@[simp] theorem record_d (s : State) (x : Access) : (s.record x).d = s.d := rfl
@[simp] theorem record_e (s : State) (x : Access) : (s.record x).e = s.e := rfl
@[simp] theorem record_h (s : State) (x : Access) : (s.record x).h = s.h := rfl
@[simp] theorem record_l (s : State) (x : Access) : (s.record x).l = s.l := rfl
@[simp] theorem record_sp (s : State) (x : Access) : (s.record x).sp = s.sp := rfl
@[simp] theorem record_pc (s : State) (x : Access) : (s.record x).pc = s.pc := rfl
@[simp] theorem record_ime (s : State) (x : Access) : (s.record x).ime = s.ime := rfl
@[simp] theorem record_ie (s : State) (x : Access) : (s.record x).ie = s.ie := rfl
@[simp] theorem record_ifr (s : State) (x : Access) : (s.record x).ifr = s.ifr := rfl
@[simp] theorem record_run (s : State) (x : Access) : (s.record x).run = s.run := rfl
@[simp] theorem record_fault (s : State) (x : Access) : (s.record x).fault = s.fault := rfl
@[simp] theorem record_cyclesTotal (s : State) (x : Access) : (s.record x).cyclesTotal = s.cyclesTotal := rfl
@[simp] theorem record_mem (s : State) (x : Access) : (s.record x).mem = s.mem := rfl
@[simp] theorem record_params (s : State) (x : Access) : (s.record x).params = s.params := rfl
@[simp] theorem record_history (s : State) (x : Access) : (s.record x).history = x :: s.history := rfl
@[simp] theorem record_reg (s : State) (x : Access) (r : Reg8) : (s.record x).reg r = s.reg r := by cases r <;> rfl
@[simp] theorem record_pair (s : State) (x : Access) (p : Pair) : (s.record x).pair p = s.pair p := by cases p <;> rfl

/-! ### `writeByte` -/

@[simp] theorem writeByte_a (s : State) (a : Word) (v : Byte) : (writeByte s a v).a = s.a := rfl
@[simp] theorem writeByte_f (s : State) (a : Word) (v : Byte) : (writeByte s a v).f = s.f := rfl
@[simp] theorem writeByte_b (s : State) (a : Word) (v : Byte) : (writeByte s a v).b = s.b := rfl
@[simp] theorem writeByte_c (s : State) (a : Word) (v : Byte) : (writeByte s a v).c = s.c := rfl
@[simp] theorem writeByte_d (s : State) (a : Word) (v : Byte) : (writeByte s a v).d = s.d := rfl
@[simp] theorem writeByte_e (s : State) (a : Word) (v : Byte) : (writeByte s a v).e = s.e := rfl
@[simp] theorem writeByte_h (s : State) (a : Word) (v : Byte) : (writeByte s a v).h = s.h := rfl
@[simp] theorem writeByte_l (s : State) (a : Word) (v : Byte) : (writeByte s a v).l = s.l := rfl
@[simp] theorem writeByte_sp (s : State) (a : Word) (v : Byte) : (writeByte s a v).sp = s.sp := rfl
@[simp] theorem writeByte_pc (s : State) (a : Word) (v : Byte) : (writeByte s a v).pc = s.pc := rfl
@[simp] theorem writeByte_ime (s : State) (a : Word) (v : Byte) : (writeByte s a v).ime = s.ime := rfl
@[simp] theorem writeByte_ie (s : State) (a : Word) (v : Byte) : (writeByte s a v).ie = s.ie := rfl
@[simp] theorem writeByte_ifr (s : State) (a : Word) (v : Byte) : (writeByte s a v).ifr = s.ifr := rfl
@[simp] theorem writeByte_run (s : State) (a : Word) (v : Byte) : (writeByte s a v).run = s.run := rfl
@[simp] theorem writeByte_fault (s : State) (a : Word) (v : Byte) : (writeByte s a v).fault = s.fault := rfl
@[simp] theorem writeByte_cyclesTotal (s : State) (a : Word) (v : Byte) : (writeByte s a v).cyclesTotal = s.cyclesTotal := rfl
@[simp] theorem writeByte_params (s : State) (a : Word) (v : Byte) : (writeByte s a v).params = s.params := rfl
@[simp] theorem writeByte_history (s : State) (a : Word) (v : Byte) :
    (writeByte s a v).history = .writeByte a v :: s.history := rfl
@[simp] theorem writeByte_mem (s : State) (a : Word) (v : Byte) :
    (writeByte s a v).mem = Memory.write s.mem a.toNat v := rfl
@[simp] theorem writeByte_reg (s : State) (a : Word) (v : Byte) (r : Reg8) : (writeByte s a v).reg r = s.reg r := by
  cases r <;> rfl

/-! ### `readByte` and `readWord` -/

@[simp] theorem readByte_value (s : State) (a : Word) : (readByte s a).1 = busAnswer s a := rfl
@[simp] theorem readByte_state (s : State) (a : Word) : (readByte s a).2 = s.record (.readByte a (busAnswer s a)) := rfl
@[simp] theorem readWord_value (s : State) (a : Word) : (readWord s a).1 = busAnswerWord s a := rfl
@[simp] theorem readWord_state (s : State) (a : Word) :
    (readWord s a).2 = s.record (.readWord a (busAnswerWord s a)) := rfl

end Sys2Proof.Machine
end

