-- ==== Sys2Proof/Laws/Step.lean ====
section
/-! SUPPORT. What a fetch, a step and a boundary action can do, said once. -/
namespace Sys2Proof.Machine

/-- The fetch, by the slot of the opcode at the pc (spec/20_memory.md R57). -/
theorem fetchInstr_eq (s : State) :
    fetchInstr s =
      match slotOf s.params (busAnswer s s.pc) with
      | .unpopulated => (.undefined (busAnswer s s.pc), s.record (.readByte s.pc (busAnswer s s.pc)))
      | .alone i => (i, s.record (.readByte s.pc (busAnswer s s.pc)))
      | .withByte f =>
        let s1 := s.record (.readByte s.pc (busAnswer s s.pc))
        (f (busAnswer s1 (s.pc + 1)), s1.record (.readByte (s.pc + 1) (busAnswer s1 (s.pc + 1))))
      | .withWord f =>
        let s1 := s.record (.readByte s.pc (busAnswer s s.pc))
        (f (busAnswerWord s1 (s.pc + 1)), s1.record (.readWord (s.pc + 1) (busAnswerWord s1 (s.pc + 1)))) := rfl

/-- A fetch changes the access history only. -/
theorem fetchInstr_state (s : State) : ∃ xs, (fetchInstr s).2 = { s with history := xs ++ s.history } := by
  rw [fetchInstr_eq]
  split
  · exact ⟨[_], rfl⟩
  · exact ⟨[_], rfl⟩
  · exact ⟨[_, _], rfl⟩
  · exact ⟨[_, _], rfl⟩

/-- A step of a running state with well-formed flags executes the fetched instruction (60_exceptions.md R255). -/
theorem step_of_running (s : State) (hr : s.run = .running) (hf : flagsOk s.f = true) :
    step s = exec (fetchInstr s).1 (fetchInstr s).2 := by
  simp [step, hr, hf]

/-- If a step answers a next state, it ran the fetched instruction in a running state with well-formed flags. -/
theorem step_cases (s t : State) (h : step s = .next t) :
    s.run = .running ∧ flagsOk s.f = true ∧ exec (fetchInstr s).1 (fetchInstr s).2 = .next t := by
  unfold step at h
  split at h
  · cases h
  · next hr =>
    split at h
    · next hf => exact ⟨hr, hf, h⟩
    · cases h

/-- If a boundary action answers a next state, it wrote its own register in a running state. -/
theorem boundary_cases (x : BoundaryAction) (s t : State) (h : boundary x s = .next t) :
    s.run = .running ∧ flagsOk s.f = true ∧
      ((∃ v, x = .setIME v ∧ t = { s with ime := v }) ∨ (∃ v, x = .setIE v ∧ t = { s with ie := v }) ∨
        (∃ v, x = .setIF v ∧ t = { s with ifr := v })) := by
  unfold boundary at h
  split at h
  · cases h
  · next hr =>
    split at h
    · next hf =>
      refine ⟨hr, hf, ?_⟩
      cases x <;> cases h
      · exact .inl ⟨_, rfl, rfl⟩
      · exact .inr (.inl ⟨_, rfl, rfl⟩)
      · exact .inr (.inr ⟨_, rfl, rfl⟩)
    · cases h

/-- A run of n + 1 steps is a step and a run of n. -/
theorem runSteps_succ (n : Nat) (s t : State) (h : step s = .next t) : runSteps (n + 1) s = runSteps n t := by
  simp [runSteps, h]

/-- If a run of n + 1 steps answers a next state, its first step did, and so did the n steps after it. -/
theorem runSteps_cases (n : Nat) (s u : State) (h : runSteps (n + 1) s = .next u) :
    ∃ t, step s = .next t ∧ runSteps n t = .next u := by
  unfold runSteps at h
  split at h
  · next t ht => exact ⟨t, ht, h⟩
  · cases h
  · cases h

/-- The costs of a run whose first step executes an instruction. -/
theorem executedCosts_running (n : Nat) (s t : State) (h : step s = .next t) (hr : t.run = .running) :
    executedCosts (n + 1) s = nominalCost (fetchInstr s).1 (fetchInstr s).2 :: executedCosts n t := by
  simp [executedCosts, h, hr]

/-- A run whose first step faults executes nothing. -/
theorem executedCosts_faulted (n : Nat) (s t : State) (h : step s = .next t) (hr : t.run = .faulted) :
    executedCosts (n + 1) s = [] := by
  simp [executedCosts, h, hr]

/-- From Faulted, only the run of no steps answers a next state (60_exceptions.md R256). -/
theorem runSteps_of_faulted (n : Nat) (s t : State) (hs : s.run = .faulted) (h : runSteps n s = .next t) :
    n = 0 ∧ t = s := by
  cases n with
  | zero => cases h; exact ⟨rfl, rfl⟩
  | succ n =>
    obtain ⟨u, hu, -⟩ := runSteps_cases n s t h
    simp [step, hs] at hu

end Sys2Proof.Machine
end

