-- ==== Sys2Proof/Tests/Slice0.lean ====
section
/-! SUPPORT. The model's own tests. The words are written bit by bit from the formats and fields of spec/30_encoding.md R71 to R76; the
expected results of the steps are those of spec/95_test_vectors.md. Then one witness for each statement that has hypotheses. -/
namespace Sys2Proof.Tests

open Sys2Proof Sys2Proof.Machine

/-! ### Well-formedness -/

/-- An unpopulated slot with an opcode that S_def populates is no instruction (30_encoding.md R81). -/
theorem test_undefined_of_a_populated_opcode_is_ill_formed :
    (Instr.undefined 0x00).wellFormed = false ∧ (Instr.undefined 0x77).wellFormed = false := by decide

/-- The slots of R81 are instructions. -/
theorem test_undefined_of_a_listed_opcode_is_well_formed :
    (Instr.undefined 0x76).wellFormed = true ∧ (Instr.undefined 0xFF).wellFormed = true := by decide

/-! ### Decoding: every constructor by a word from the formats -/

/-- Every table word of the list decodes to the instruction beside it. -/
def decodes (nbits : Nat) (rows : List (Nat × Instr)) : Bool :=
  rows.all fun x => decide (decodeTableWord nbits x.1 = some x.2)

/-- F_RR `01 ddd sss`, ddd = 000 (R71, R72). -/
theorem test_decode_ld_b : decodes 8 (
    [(0b01000000, .ld_b_b), (0b01000001, .ld_b_c), (0b01000010, .ld_b_d), (0b01000011, .ld_b_e), (0b01000100, .ld_b_h),
     (0b01000101, .ld_b_l), (0b01000111, .ld_b_a), (0b01000110, .ld_b_at_hl)]) = true := by decide

/-- F_RR `01 ddd sss`, ddd = 001 (R71, R72). -/
theorem test_decode_ld_c : decodes 8 (
    [(0b01001000, .ld_c_b), (0b01001001, .ld_c_c), (0b01001010, .ld_c_d), (0b01001011, .ld_c_e), (0b01001100, .ld_c_h),
     (0b01001101, .ld_c_l), (0b01001111, .ld_c_a), (0b01001110, .ld_c_at_hl)]) = true := by decide

/-- F_RR `01 ddd sss`, ddd = 010 (R71, R72). -/
theorem test_decode_ld_d : decodes 8 (
    [(0b01010000, .ld_d_b), (0b01010001, .ld_d_c), (0b01010010, .ld_d_d), (0b01010011, .ld_d_e), (0b01010100, .ld_d_h),
     (0b01010101, .ld_d_l), (0b01010111, .ld_d_a), (0b01010110, .ld_d_at_hl)]) = true := by decide

/-- F_RR `01 ddd sss`, ddd = 011 (R71, R72). -/
theorem test_decode_ld_e : decodes 8 (
    [(0b01011000, .ld_e_b), (0b01011001, .ld_e_c), (0b01011010, .ld_e_d), (0b01011011, .ld_e_e), (0b01011100, .ld_e_h),
     (0b01011101, .ld_e_l), (0b01011111, .ld_e_a), (0b01011110, .ld_e_at_hl)]) = true := by decide

/-- F_RR `01 ddd sss`, ddd = 100 (R71, R72). -/
theorem test_decode_ld_h : decodes 8 (
    [(0b01100000, .ld_h_b), (0b01100001, .ld_h_c), (0b01100010, .ld_h_d), (0b01100011, .ld_h_e), (0b01100100, .ld_h_h),
     (0b01100101, .ld_h_l), (0b01100111, .ld_h_a), (0b01100110, .ld_h_at_hl)]) = true := by decide

/-- F_RR `01 ddd sss`, ddd = 101 (R71, R72). -/
theorem test_decode_ld_l : decodes 8 (
    [(0b01101000, .ld_l_b), (0b01101001, .ld_l_c), (0b01101010, .ld_l_d), (0b01101011, .ld_l_e), (0b01101100, .ld_l_h),
     (0b01101101, .ld_l_l), (0b01101111, .ld_l_a), (0b01101110, .ld_l_at_hl)]) = true := by decide

/-- F_RR `01 ddd sss`, ddd = 111 (R71, R72). -/
theorem test_decode_ld_a : decodes 8 (
    [(0b01111000, .ld_a_b), (0b01111001, .ld_a_c), (0b01111010, .ld_a_d), (0b01111011, .ld_a_e), (0b01111100, .ld_a_h),
     (0b01111101, .ld_a_l), (0b01111111, .ld_a_a), (0b01111110, .ld_a_at_hl)]) = true := by decide

/-- F_RR `01 ddd sss`, ddd = 110 (R71, R72). -/
theorem test_decode_ld_at_hl : decodes 8 (
    [(0b01110000, .ld_at_hl_b), (0b01110001, .ld_at_hl_c), (0b01110010, .ld_at_hl_d), (0b01110011, .ld_at_hl_e),
     (0b01110100, .ld_at_hl_h), (0b01110101, .ld_at_hl_l), (0b01110111, .ld_at_hl_a)]) = true := by decide

/-- F_ALU_R `10 aaa sss`, aaa = 000 (R71, R75). -/
theorem test_decode_add_reg : decodes 8 (
    [(0b10000000, .add_a_b), (0b10000001, .add_a_c), (0b10000010, .add_a_d), (0b10000011, .add_a_e), (0b10000100, .add_a_h),
     (0b10000101, .add_a_l), (0b10000111, .add_a_a), (0b10000110, .add_a_at_hl)]) = true := by decide

/-- F_ALU_R `10 aaa sss`, aaa = 001 (R71, R75). -/
theorem test_decode_adc_reg : decodes 8 (
    [(0b10001000, .adc_a_b), (0b10001001, .adc_a_c), (0b10001010, .adc_a_d), (0b10001011, .adc_a_e), (0b10001100, .adc_a_h),
     (0b10001101, .adc_a_l), (0b10001111, .adc_a_a), (0b10001110, .adc_a_at_hl)]) = true := by decide

/-- F_ALU_R `10 aaa sss`, aaa = 010 (R71, R75). -/
theorem test_decode_sub_reg : decodes 8 (
    [(0b10010000, .sub_b), (0b10010001, .sub_c), (0b10010010, .sub_d), (0b10010011, .sub_e), (0b10010100, .sub_h),
     (0b10010101, .sub_l), (0b10010111, .sub_a), (0b10010110, .sub_at_hl)]) = true := by decide

/-- F_ALU_R `10 aaa sss`, aaa = 011 (R71, R75). -/
theorem test_decode_sbc_reg : decodes 8 (
    [(0b10011000, .sbc_a_b), (0b10011001, .sbc_a_c), (0b10011010, .sbc_a_d), (0b10011011, .sbc_a_e), (0b10011100, .sbc_a_h),
     (0b10011101, .sbc_a_l), (0b10011111, .sbc_a_a), (0b10011110, .sbc_a_at_hl)]) = true := by decide

/-- F_ALU_R `10 aaa sss`, aaa = 100 (R71, R75). -/
theorem test_decode_and_reg : decodes 8 (
    [(0b10100000, .and_b), (0b10100001, .and_c), (0b10100010, .and_d), (0b10100011, .and_e), (0b10100100, .and_h),
     (0b10100101, .and_l), (0b10100111, .and_a), (0b10100110, .and_at_hl)]) = true := by decide

/-- F_ALU_R `10 aaa sss`, aaa = 101 (R71, R75). -/
theorem test_decode_xor_reg : decodes 8 (
    [(0b10101000, .xor_b), (0b10101001, .xor_c), (0b10101010, .xor_d), (0b10101011, .xor_e), (0b10101100, .xor_h),
     (0b10101101, .xor_l), (0b10101111, .xor_a), (0b10101110, .xor_at_hl)]) = true := by decide

/-- F_ALU_R `10 aaa sss`, aaa = 110 (R71, R75). -/
theorem test_decode_or_reg : decodes 8 (
    [(0b10110000, .or_b), (0b10110001, .or_c), (0b10110010, .or_d), (0b10110011, .or_e), (0b10110100, .or_h),
     (0b10110101, .or_l), (0b10110111, .or_a), (0b10110110, .or_at_hl)]) = true := by decide

/-- F_ALU_R `10 aaa sss`, aaa = 111 (R71, R75). -/
theorem test_decode_cp_reg : decodes 8 (
    [(0b10111000, .cp_b), (0b10111001, .cp_c), (0b10111010, .cp_d), (0b10111011, .cp_e), (0b10111100, .cp_h),
     (0b10111101, .cp_l), (0b10111111, .cp_a), (0b10111110, .cp_at_hl)]) = true := by decide

/-- F_ALU_IMM8 `11 aaa 110`, then n = 0xA5 (R71, R75, R76). -/
theorem test_decode_alu_imm : decodes 16 (
    [(0xA5 * 0x100 + 0b11000110, .add_a_n 0xA5), (0xA5 * 0x100 + 0b11001110, .adc_a_n 0xA5),
     (0xA5 * 0x100 + 0b11010110, .sub_n 0xA5), (0xA5 * 0x100 + 0b11011110, .sbc_a_n 0xA5),
     (0xA5 * 0x100 + 0b11100110, .and_n 0xA5), (0xA5 * 0x100 + 0b11101110, .xor_n 0xA5),
     (0xA5 * 0x100 + 0b11110110, .or_n 0xA5), (0xA5 * 0x100 + 0b11111110, .cp_n 0xA5)]) = true := by decide

/-- F_R `00 ddd 10x`, x = 0 (R71). -/
theorem test_decode_inc : decodes 8 (
    [(0b00000100, .inc_b), (0b00001100, .inc_c), (0b00010100, .inc_d), (0b00011100, .inc_e), (0b00100100, .inc_h),
     (0b00101100, .inc_l), (0b00111100, .inc_a), (0b00110100, .inc_at_hl)]) = true := by decide

/-- F_R `00 ddd 10x`, x = 1 (R71). -/
theorem test_decode_dec : decodes 8 (
    [(0b00000101, .dec_b), (0b00001101, .dec_c), (0b00010101, .dec_d), (0b00011101, .dec_e), (0b00100101, .dec_h),
     (0b00101101, .dec_l), (0b00111101, .dec_a), (0b00110101, .dec_at_hl)]) = true := by decide

/-- F_R_IMM8 `00 ddd 110`, then n = 0x81 (R71, R76). -/
theorem test_decode_ld_imm : decodes 16 (
    [(0x81 * 0x100 + 0b00000110, .ld_b_n 0x81), (0x81 * 0x100 + 0b00001110, .ld_c_n 0x81),
     (0x81 * 0x100 + 0b00010110, .ld_d_n 0x81), (0x81 * 0x100 + 0b00011110, .ld_e_n 0x81),
     (0x81 * 0x100 + 0b00100110, .ld_h_n 0x81), (0x81 * 0x100 + 0b00101110, .ld_l_n 0x81),
     (0x81 * 0x100 + 0b00111110, .ld_a_n 0x81), (0x81 * 0x100 + 0b00110110, .ld_at_hl_n 0x81)]) = true := by decide

/-- F_P_IMM16 `00 pp 0001`, then 0x34 and 0x12, the low byte first (R71, R76). -/
theorem test_decode_ld_pair : decodes 24 (
    [(0x1234 * 0x100 + 0b00000001, .ld_bc_nn 0x1234), (0x1234 * 0x100 + 0b00010001, .ld_de_nn 0x1234),
     (0x1234 * 0x100 + 0b00100001, .ld_hl_nn 0x1234), (0x1234 * 0x100 + 0b00110001, .ld_sp_nn 0x1234)]) = true := by decide

/-- F_P `00 pp y011`, y = 0 (R71). -/
theorem test_decode_inc_pair : decodes 8 (
    [(0b00000011, .inc_bc), (0b00010011, .inc_de), (0b00100011, .inc_hl), (0b00110011, .inc_sp)]) = true := by decide

/-- F_P `00 pp y011`, y = 1 (R71). -/
theorem test_decode_dec_pair : decodes 8 (
    [(0b00001011, .dec_bc), (0b00011011, .dec_de), (0b00101011, .dec_hl), (0b00111011, .dec_sp)]) = true := by decide

/-- F_P `00 pp 1001` (R71). -/
theorem test_decode_add_hl : decodes 8 (
    [(0b00001001, .add_hl_bc), (0b00011001, .add_hl_de), (0b00101001, .add_hl_hl), (0b00111001, .add_hl_sp)]) = true := by decide

/-- F_IND `00 pp z010`, z = 0 (R71, R73). -/
theorem test_decode_store_a : decodes 8 (
    [(0b00000010, .ld_at_bc_a), (0b00010010, .ld_at_de_a), (0b00100010, .ld_at_hli_a), (0b00110010, .ld_at_hld_a)]) = true := by decide

/-- F_IND `00 pp z010`, z = 1 (R71, R73). -/
theorem test_decode_load_a : decodes 8 (
    [(0b00001010, .ld_a_at_bc), (0b00011010, .ld_a_at_de), (0b00101010, .ld_a_at_hli), (0b00111010, .ld_a_at_hld)]) = true := by decide

/-- F_CC_REL `001 cc 000`, then e = 0xFB (R71, R74). -/
theorem test_decode_jr_cc : decodes 16 (
    [(0xFB * 0x100 + 0b00100000, .jr_nz_e 0xFB), (0xFB * 0x100 + 0b00101000, .jr_z_e 0xFB),
     (0xFB * 0x100 + 0b00110000, .jr_nc_e 0xFB), (0xFB * 0x100 + 0b00111000, .jr_c_e 0xFB)]) = true := by decide

/-- F_REL `00 011 000`, then e = 0xFE (R71). -/
theorem test_decode_jr : decodes 16 (
    [(0xFE * 0x100 + 0b00011000, .jr_e 0xFE)]) = true := by decide

/-- F_ABS16 0xC3, 0xEA and 0xFA, then 0x50 and 0x01, the low byte first (R71, R76). -/
theorem test_decode_absolute : decodes 24 (
    [(0x0150 * 0x100 + 0b11000011, .jp_nn 0x0150), (0x0150 * 0x100 + 0b11101010, .ld_at_nn_a 0x0150),
     (0x0150 * 0x100 + 0b11111010, .ld_a_at_nn 0x0150)]) = true := by decide

/-- F_IMM8 `111 w 0000`, then n = 0x40 (R71, R76). -/
theorem test_decode_ldh : decodes 16 (
    [(0x40 * 0x100 + 0b11100000, .ldh_at_n_a 0x40), (0x40 * 0x100 + 0b11110000, .ldh_a_at_n 0x40)]) = true := by decide

/-- F_NONE 0x00, 0xF3, 0xFB, and the slots 0x76 and 0xCB that have no handler (R71, R81, R82, R83). -/
theorem test_decode_control : decodes 8 (
    [(0b00000000, .nop), (0b11110011, .di), (0b11111011, .ei), (0b01110110, .undefined 0x76), (0b11001011, .undefined 0xCB)]) = true := by decide

/-- Bytes are missing: an operand is never filled in (30_encoding.md R85). -/
theorem test_decode_needs_its_operand_bytes :
    decode [] = .error .noOpcode ∧ decode [0x3E] = .error (.missingOperand 0x3E 1 0) ∧
      decode [0xC3, 0x50] = .error (.missingOperand 0xC3 2 1) := ⟨rfl, rfl, rfl⟩

/-! ### Single steps -/

/-- The start state of 95_test_vectors.md section 3 with given bytes at the pc. -/
def start (bytes : List Byte) : State :=
  { State.reset with
    params := vectorParams
    a := 0x3C, f := 0x10, b := 0x01, c := 0x0F, d := 0x10, e := 0xFF, h := 0xC0, l := 0x00, sp := 0xFFFE, pc := 0x0200
    mem := placeBytes [(0x010F, 0x3B), (0x10FF, 0x99), (0xC000, 0x5A), (0xC00F, 0xA5), (0xFF0F, 0x77)] 0x0200 bytes }

/-- The start state of the section 3 row of an opcode. -/
def vector (op : Byte) : State := start [op, 0x0F, 0xC0]

/-- An outcome is a next state of which a test holds. -/
def gives (o : Out) (test : State → Bool) : Bool :=
  match o with
  | .next t => test t
  | .fault _ => false
  | .refused _ => false

/-- The pc, the accounted cycles and F after a step. -/
def ends (t : State) (pc : Word) (accounted : Nat) (f : Byte) : Bool :=
  decide (t.pc = pc ∧ t.cyclesTotal = accounted ∧ t.f = f ∧ t.run = .running)

/-- The byte at an address of flat RAM. -/
def byteAt (t : State) (a : Nat) : Byte := Memory.read t.mem a

/-- NOP (R230; section 3). -/
theorem test_step_nop :
    gives (step (vector 0x00)) (fun t => ends t 0x0201 2 0x10) = true := by decide

/-- LD BC,nn (R106; section 3). -/
theorem test_step_ld_bc_nn :
    gives (step (vector 0x01)) (fun t => ends t 0x0203 4 0x10 && t.b == 0xC0) = true := by decide

/-- LD SP,nn (R106; section 3). -/
theorem test_step_ld_sp_nn :
    gives (step (vector 0x31)) (fun t => ends t 0x0203 4 0x10 && t.sp == 0xC00F) = true := by decide

/-- LD (BC),A (R210; section 3). -/
theorem test_step_ld_at_bc_a :
    gives (step (vector 0x02)) (fun t => ends t 0x0201 3 0x10 && byteAt t 0x010F == 0x3C) = true := by decide

/-- LD (DE),A (R211; section 3). -/
theorem test_step_ld_at_de_a :
    gives (step (vector 0x12)) (fun t => ends t 0x0201 3 0x10 && byteAt t 0x10FF == 0x3C) = true := by decide

/-- INC BC (R125; section 3). -/
theorem test_step_inc_bc :
    gives (step (vector 0x03)) (fun t => ends t 0x0201 3 0x10 && t.c == 0x10) = true := by decide

/-- DEC SP (R126; section 3). -/
theorem test_step_dec_sp :
    gives (step (vector 0x3B)) (fun t => ends t 0x0201 3 0x10 && t.sp == 0xFFFD) = true := by decide

/-- INC B (R121; section 3). -/
theorem test_step_inc_b :
    gives (step (vector 0x04)) (fun t => ends t 0x0201 2 0x10 && t.b == 0x02) = true := by decide

/-- DEC B (R123; section 3). -/
theorem test_step_dec_b :
    gives (step (vector 0x05)) (fun t => ends t 0x0201 2 0xD0 && t.b == 0x00) = true := by decide

/-- LD B,n (R104; section 3). -/
theorem test_step_ld_b_n :
    gives (step (vector 0x06)) (fun t => ends t 0x0202 3 0x10 && t.b == 0x0F) = true := by decide

/-- LD (HL),n (R105; section 3). -/
theorem test_step_ld_at_hl_n :
    gives (step (vector 0x36)) (fun t => ends t 0x0202 4 0x10 && byteAt t 0xC000 == 0x0F) = true := by decide

/-- ADD HL,BC (R184; section 3). -/
theorem test_step_add_hl_bc :
    gives (step (vector 0x09)) (fun t => ends t 0x0201 3 0x00 && t.h == 0xC1 && t.l == 0x0F) = true := by decide

/-- ADD HL,HL (R184; section 3). -/
theorem test_step_add_hl_hl :
    gives (step (vector 0x29)) (fun t => ends t 0x0201 3 0x10 && t.h == 0x80) = true := by decide

/-- ADD HL,SP (R184; section 3). -/
theorem test_step_add_hl_sp :
    gives (step (vector 0x39)) (fun t => ends t 0x0201 3 0x10 && t.h == 0xBF && t.l == 0xFE) = true := by decide

/-- LD A,(BC) (R214; section 3). -/
theorem test_step_ld_a_at_bc :
    gives (step (vector 0x0A)) (fun t => ends t 0x0201 3 0x10 && t.a == 0x3B) = true := by decide

/-- LD A,(DE) (R215; section 3). -/
theorem test_step_ld_a_at_de :
    gives (step (vector 0x1A)) (fun t => ends t 0x0201 3 0x10 && t.a == 0x99) = true := by decide

/-- JR e (R191; section 3). -/
theorem test_step_jr_e :
    gives (step (vector 0x18)) (fun t => ends t 0x0211 4 0x10) = true := by decide

/-- JR NZ,e (R192; section 3). -/
theorem test_step_jr_nz_e :
    gives (step (vector 0x20)) (fun t => ends t 0x0211 4 0x10) = true := by decide

/-- JR Z,e (R192; section 3). -/
theorem test_step_jr_z_e :
    gives (step (vector 0x28)) (fun t => ends t 0x0202 3 0x10) = true := by decide

/-- JR NC,e (R192; section 3). -/
theorem test_step_jr_nc_e :
    gives (step (vector 0x30)) (fun t => ends t 0x0202 3 0x10) = true := by decide

/-- JR C,e (R192; section 3). -/
theorem test_step_jr_c_e :
    gives (step (vector 0x38)) (fun t => ends t 0x0211 4 0x10) = true := by decide

/-- LD (HL+),A (R212; section 3). -/
theorem test_step_ld_at_hli_a :
    gives (step (vector 0x22)) (fun t => ends t 0x0201 3 0x10 && t.l == 0x01 && byteAt t 0xC000 == 0x3C) = true := by decide

/-- LD (HL-),A (R213; section 3). -/
theorem test_step_ld_at_hld_a :
    gives (step (vector 0x32)) (fun t => ends t 0x0201 3 0x10 && t.h == 0xBF && t.l == 0xFF && byteAt t 0xC000 == 0x3C) = true := by decide

/-- LD A,(HL+) (R216; section 3). -/
theorem test_step_ld_a_at_hli :
    gives (step (vector 0x2A)) (fun t => ends t 0x0201 3 0x10 && t.a == 0x5A && t.l == 0x01) = true := by decide

/-- LD A,(HL-) (R217; section 3). -/
theorem test_step_ld_a_at_hld :
    gives (step (vector 0x3A)) (fun t => ends t 0x0201 3 0x10 && t.a == 0x5A && t.h == 0xBF && t.l == 0xFF) = true := by decide

/-- INC (HL) (R122; section 3). -/
theorem test_step_inc_at_hl :
    gives (step (vector 0x34)) (fun t => ends t 0x0201 4 0x10 && byteAt t 0xC000 == 0x5B) = true := by decide

/-- DEC (HL) (R124; section 3). -/
theorem test_step_dec_at_hl :
    gives (step (vector 0x35)) (fun t => ends t 0x0201 4 0x50 && byteAt t 0xC000 == 0x59) = true := by decide

/-- LD B,C (R101; section 3). -/
theorem test_step_ld_b_c :
    gives (step (vector 0x41)) (fun t => ends t 0x0201 2 0x10 && t.b == 0x0F) = true := by decide

/-- LD H,(HL) (R102; section 3). -/
theorem test_step_ld_h_at_hl :
    gives (step (vector 0x66)) (fun t => ends t 0x0201 3 0x10 && t.h == 0x5A) = true := by decide

/-- LD (HL),H (R103; section 3). -/
theorem test_step_ld_at_hl_h :
    gives (step (vector 0x74)) (fun t => ends t 0x0201 3 0x10 && byteAt t 0xC000 == 0xC0) = true := by decide

/-- ADD A,B (R160; section 3). -/
theorem test_step_add_a_b :
    gives (step (vector 0x80)) (fun t => ends t 0x0201 2 0x00 && t.a == 0x3D) = true := by decide

/-- ADC A,(HL) (R164; section 3). -/
theorem test_step_adc_a_at_hl :
    gives (step (vector 0x8E)) (fun t => ends t 0x0201 3 0x20 && t.a == 0x97) = true := by decide

/-- SUB E (R166; section 3). -/
theorem test_step_sub_e :
    gives (step (vector 0x93)) (fun t => ends t 0x0201 2 0x70 && t.a == 0x3D) = true := by decide

/-- SBC A,H (R169; section 3). -/
theorem test_step_sbc_a_h :
    gives (step (vector 0x9C)) (fun t => ends t 0x0201 2 0x50 && t.a == 0x7B) = true := by decide

/-- AND L (R172; section 3). -/
theorem test_step_and_l :
    gives (step (vector 0xA5)) (fun t => ends t 0x0201 2 0xA0 && t.a == 0x00) = true := by decide

/-- XOR (HL) (R176; section 3). -/
theorem test_step_xor_at_hl :
    gives (step (vector 0xAE)) (fun t => ends t 0x0201 3 0x00 && t.a == 0x66) = true := by decide

/-- OR B (R178; section 3). -/
theorem test_step_or_b :
    gives (step (vector 0xB0)) (fun t => ends t 0x0201 2 0x00 && t.a == 0x3D) = true := by decide

/-- CP C (R181; section 3). -/
theorem test_step_cp_c :
    gives (step (vector 0xB9)) (fun t => ends t 0x0201 2 0x60) = true := by decide

/-- ADD A,n (R162; section 3). -/
theorem test_step_add_a_n :
    gives (step (vector 0xC6)) (fun t => ends t 0x0202 3 0x20 && t.a == 0x4B) = true := by decide

/-- ADC A,n (R165; section 3). -/
theorem test_step_adc_a_n :
    gives (step (vector 0xCE)) (fun t => ends t 0x0202 3 0x20 && t.a == 0x4C) = true := by decide

/-- SUB n (R168; section 3). -/
theorem test_step_sub_n :
    gives (step (vector 0xD6)) (fun t => ends t 0x0202 3 0x60 && t.a == 0x2D) = true := by decide

/-- SBC A,n (R171; section 3). -/
theorem test_step_sbc_a_n :
    gives (step (vector 0xDE)) (fun t => ends t 0x0202 3 0x60 && t.a == 0x2C) = true := by decide

/-- AND n (R174; section 3). -/
theorem test_step_and_n :
    gives (step (vector 0xE6)) (fun t => ends t 0x0202 3 0x20 && t.a == 0x0C) = true := by decide

/-- XOR n (R177; section 3). -/
theorem test_step_xor_n :
    gives (step (vector 0xEE)) (fun t => ends t 0x0202 3 0x00 && t.a == 0x33) = true := by decide

/-- OR n (R180; section 3). -/
theorem test_step_or_n :
    gives (step (vector 0xF6)) (fun t => ends t 0x0202 3 0x00 && t.a == 0x3F) = true := by decide

/-- CP n (R183; section 3). -/
theorem test_step_cp_n :
    gives (step (vector 0xFE)) (fun t => ends t 0x0202 3 0x60) = true := by decide

/-- JP nn (R193; section 3). -/
theorem test_step_jp_nn :
    gives (step (vector 0xC3)) (fun t => ends t 0xC00F 5 0x10) = true := by decide

/-- LDH (n),A (R218; section 3). -/
theorem test_step_ldh_at_n_a :
    gives (step (vector 0xE0)) (fun t => ends t 0x0202 4 0x10 && byteAt t 0xFF0F == 0x3C) = true := by decide

/-- LDH A,(n) (R219; section 3). -/
theorem test_step_ldh_a_at_n :
    gives (step (vector 0xF0)) (fun t => ends t 0x0202 4 0x10 && t.a == 0x77) = true := by decide

/-- LD (nn),A (R220; section 3). -/
theorem test_step_ld_at_nn_a :
    gives (step (vector 0xEA)) (fun t => ends t 0x0203 5 0x10 && byteAt t 0xC00F == 0x3C) = true := by decide

/-- LD A,(nn) (R221; section 3). -/
theorem test_step_ld_a_at_nn :
    gives (step (vector 0xFA)) (fun t => ends t 0x0203 5 0x10 && t.a == 0xA5) = true := by decide

/-- EI (R232; section 3). -/
theorem test_step_ei :
    gives (step (vector 0xFB)) (fun t => ends t 0x0201 2 0x10 && t.ime) = true := by decide

/-! ### Corners -/

/-- DI clears IME (R231; section 3). -/
theorem test_step_di : gives (step { vector 0xF3 with ime := true }) (fun t => ends t 0x0201 2 0x10 && !t.ime) = true := by
  decide

/-- The accesses of INC (HL) in their order, newest first: the opcode, the byte at HL, its write (20_memory.md R57; section 2.7). -/
theorem test_accesses_inc_at_hl :
    gives (step (vector 0x34)) (fun t => t.history ==
      [.writeByte 0xC000 0x5B, .readByte 0xC000 0x5A, .readByte 0x0200 0x34]) = true := by decide

/-- A conditional jump not taken reads its displacement too (section 2.6, 92_eei_decisions.md D18). -/
theorem test_accesses_jr_not_taken :
    gives (step (vector 0x28)) (fun t => t.history == [.readByte 0x0201 0x0F, .readByte 0x0200 0x28]) = true := by decide

/-- JR backwards past 0x0000 (section 2.6). -/
theorem test_jr_wraps_below_zero :
    gives (exec (.jr_e 0xE0) { vector 0x18 with pc := 0x0010 }) (fun t => t.pc == 0xFFF2) = true := by decide

/-- JP whose operand's high byte is read at 0x0000 (section 2.6, 20_memory.md R53). -/
theorem test_jp_operand_wraps :
    gives (step { State.reset with params := vectorParams, pc := 0xFFFE, mem := [(0x0000, 0x12), (0xFFFE, 0xC3), (0xFFFF, 0x34)] })
      (fun t => t.pc == 0x1234) = true := by decide

/-- LD (HL+),A at HL = 0xFFFF (section 2.7). -/
theorem test_ld_at_hli_wraps :
    gives (step { vector 0x22 with h := 0xFF, l := 0xFF })
      (fun t => t.hl == 0x0000 && byteAt t 0xFFFF == 0x3C && t.f == 0x10) = true := by decide

/-- LDH (n),A reaches 0xFFFF (section 2.7). -/
theorem test_ldh_reaches_the_top :
    gives (step (start [0xE0, 0xFF])) (fun t => byteAt t 0xFFFF == 0x3C) = true := by decide

/-- INC SP at 0xFFFF: no flag (section 2.4). -/
theorem test_inc_sp_wraps :
    gives (step { vector 0x33 with sp := 0xFFFF }) (fun t => t.sp == 0x0000 && t.f == 0x10) = true := by decide

/-- LD H,(HL) reads at the old HL (section 2.5). -/
theorem test_ld_h_at_hl_reads_first :
    gives (step (vector 0x66)) (fun t => t.h == 0x5A && t.l == 0x00) = true := by decide

/-- INC r at 0xFF keeps the carry (section 2.2). -/
theorem test_inc_wraps :
    gives (exec .inc_b { vector 0x04 with b := 0xFF }) (fun t => t.b == 0x00 && t.f == 0xB0) = true := by decide

/-- DEC r at 0x00 with the carry clear (section 2.2). -/
theorem test_dec_wraps :
    gives (exec .dec_b { vector 0x05 with b := 0x00, f := 0x00 }) (fun t => t.b == 0xFF && t.f == 0x60) = true := by decide

/-- The two CARRY_MODEs at b = 0xFF with a carry-in (42_alu.md R153; the rows marked "(differs)" of section 2.1). -/
theorem test_adc_modes_differ :
    gives (exec (.adc_a_n 0xFF) { vector 0xCE with a := 0x01 }) (fun t => t.a == 0x01 && t.f == 0x30) = true ∧
    gives (exec (.adc_a_n 0xFF)
        { vector 0xCE with a := 0x01, params := { vectorParams with carryMode := .wrappedCompare } })
      (fun t => t.a == 0x01 && t.f == 0x20) = true := by decide

/-- SBC: the half-carry from the carry-in alone (section 1, E2). -/
theorem test_sbc_half_carry :
    gives (exec (.sbc_a_n 0x0F) { vector 0xDE with a := 0x1F }) (fun t => t.a == 0x0F && t.f == 0x60) = true := by decide

/-- CP keeps A (section 1, E2). -/
theorem test_cp_keeps_a :
    gives (exec (.cp_n 0x11) { vector 0xFE with a := 0x20 }) (fun t => t.a == 0x20 && t.f == 0x60) = true := by decide

/-- AND under AND_H = 0 leaves the half-carry clear (42_alu.md R146). -/
theorem test_and_h_parameter :
    gives (exec (.and_n 0x0F) (vector 0xE6)) (fun t => t.a == 0x0C && t.f == 0x20) = true ∧
    gives (exec (.and_n 0x0F) { vector 0xE6 with params := { vectorParams with andH := false } })
      (fun t => t.f == 0x00) = true := by decide

/-- ADD HL,rr to zero, under both ADD16_Z (section 2.3: HL = 0xC001, rr = 0x3FFF, Z in = 0). -/
theorem test_add16_z_parameter :
    gives (exec .add_hl_bc { vector 0x09 with h := 0xC0, l := 0x01, b := 0x3F, c := 0xFF })
      (fun t => t.hl == 0x0000 && t.f == 0xB0) = true ∧
    gives (exec .add_hl_bc
        { vector 0x09 with h := 0xC0, l := 0x01, b := 0x3F, c := 0xFF, params := { vectorParams with add16Z := .unaffected } })
      (fun t => t.hl == 0x0000 && t.f == 0x30) = true := by decide

/-- CYCLES and CYCLE_WIDTH: an overridden cost, and a total that wraps (70_reset_and_hazards.md R290, 92_eei_decisions.md D22). -/
theorem test_cycle_parameters :
    gives (exec .nop { vector 0x00 with
        params := { vectorParams with cycleTable := [(0x00, 4)], cycleWidth := some 3 }, cyclesTotal := 6 })
      (fun t => t.cyclesTotal == 3) = true := by decide

/-- 0xD3 at 0x0150 faults, with the one read of its opcode (section 1, E8). -/
theorem test_undefined_opcode_faults :
    gives (step { State.reset with params := vectorParams, pc := 0x0150, mem := [(0x0150, 0xD3)] })
      (fun t => t.run == .faulted && t.fault == some (.undefinedOpcode 0x0150 0xD3) && t.pc == 0x0150 &&
        t.cyclesTotal == 0 && t.history == [.readByte 0x0150 0xD3]) = true := by decide

/-- INC A left out of POPULATED faults with its opcode (section 2.9). -/
theorem test_depopulated_opcode_faults :
    gives (step { vector 0x3C with params := { vectorParams with depopulated := [0x3C] } })
      (fun t => t.fault == some (.undefinedOpcode 0x0200 0x3C) && t.a == 0x3C) = true := by decide

/-- No step from Faulted (section 2.9). -/
theorem test_no_step_from_faulted : step { vector 0x00 with run := .faulted } = .refused .noStepFromFaulted := rfl

/-- No step where F has a low nibble (93_implementation_defined.md U20). -/
theorem test_no_step_with_a_low_nibble : step { vector 0x00 with f := 0x01 } = .refused .flagsLowNibble := rfl

/-- BOOT_REGS with a bad F is refused (93_implementation_defined.md U4). -/
theorem test_startup_refuses_a_bad_f :
    startup { dmgBootRegs with f := 0xB1 } defaultParams false [] = .refused .bootFlagsLowNibble := rfl

/-- Memory stays canonical: an entry keeps its place in the order, and a byte that reads as an unlisted one is not listed. -/
theorem test_memory_is_canonical :
    Memory.write [(0x0010, 0x01), (0x0030, 0x03)] 0x0020 0x02 = [(0x0010, 0x01), (0x0020, 0x02), (0x0030, 0x03)] ∧
      Memory.write [(0x0010, 0x01), (0x0030, 0x03)] 0x0010 0x00 = [(0x0030, 0x03)] := by decide

/-- A word placed at the reset pc is what the first step runs: LD SP,0xFFF0. -/
theorem test_fetch_word_runs :
    gives (step (State.reset.withFetchWord 24 (0xFFF0 * 0x100 + 0b00110001))) (fun t => t.sp == 0xFFF0 && t.pc == 0x0103) =
      true := by decide

/-- The cycles of JR Z taken, then not taken: 4 and 3 accounted (section 1, E5). -/
theorem test_jr_z_costs :
    gives (exec (.jr_z_e 0x05) { vector 0x28 with f := 0x80, pc := 0x0300 }) (fun t => ends t 0x0307 4 0x80) = true ∧
    gives (exec (.jr_z_e 0x05) { vector 0x28 with f := 0x00, pc := 0x0300 }) (fun t => ends t 0x0302 3 0x00) = true := by
  decide

/-! ### Witnesses: each statement with hypotheses has a state and operands that meet them all -/

theorem witness_DecodeEncodeRoundTrip :
    (Instr.jp_nn 0xFFFF).wellFormed = true ∧ (Instr.undefined 0x07).wellFormed = true ∧
      (Instr.undefined 0xFF).wellFormed = true := by decide

theorem witness_DecodedBytesEncodeBack :
    decode [0xC3, 0xFF, 0x00, 0x42] = .ok (.jp_nn 0x00FF, [0x42]) ∧ decode [0xFF] = .ok (.undefined 0xFF, []) := ⟨rfl, rfl⟩

/-- The least and the greatest listed opcode, and their neighbours that are not listed. -/
theorem witness_UndefinedSlotsAreExactlyTheListed :
    decode [0x07] = .ok (.undefined 0x07, []) ∧ decode [0xFF] = .ok (.undefined 0xFF, []) ∧
      (0x07 : Byte) ∈ undefinedOpcodes ∧ (0xFF : Byte) ∈ undefinedOpcodes ∧
      (0x06 : Byte) ∉ undefinedOpcodes ∧ (0xFE : Byte) ∉ undefinedOpcodes :=
  ⟨rfl, rfl, by decide, by decide, by decide, by decide⟩

/-- One byte short of each length above one, and exactly enough. -/
theorem witness_LengthFollowsOpcode :
    (∃ err, decode [0x3E] = .error err) ∧ (∃ err, decode [0xC3, 0x00] = .error err) ∧
      decode [0x3E, 0x00] = .ok (.ld_a_n 0x00, []) ∧ decode [0xC3, 0x00, 0x00] = .ok (.jp_nn 0x0000, []) ∧
      decode [0x00] = .ok (.nop, []) :=
  ⟨⟨_, rfl⟩, ⟨_, rfl⟩, rfl, rfl, rfl⟩

/-- A state of each of the three lengths; the operands are 0x0F and 0xC00F. -/
theorem witness_StepRunsDecodedInstruction :
    (vector 0x00).run = .running ∧ flagsOk (vector 0x00).f = true ∧
    (vector 0x00).params.depopulated.contains (readByte (vector 0x00) (vector 0x00).pc).1 = false ∧
    decode [(readByte (vector 0x00) (vector 0x00).pc).1] = .ok (.nop, []) ∧
    decode [(readByte (vector 0x3E) (vector 0x3E).pc).1,
        (readByte (readByte (vector 0x3E) (vector 0x3E).pc).2 ((vector 0x3E).pc + 1)).1] = .ok (.ld_a_n 0x0F, []) ∧
    decode (opWithWord (readByte (vector 0xC3) (vector 0xC3).pc).1
        (readWord (readByte (vector 0xC3) (vector 0xC3).pc).2 ((vector 0xC3).pc + 1)).1) = .ok (.jp_nn 0xC00F, []) :=
  ⟨rfl, rfl, rfl, rfl, rfl, rfl⟩

/-- A jump whose operand lies across the top of the address space. -/
def wrappedJump : State :=
  { State.reset with params := vectorParams, pc := 0xFFFE, mem := [(0x0000, 0x12), (0xFFFE, 0xC3), (0xFFFF, 0x34)] }

theorem witness_StepRunsBytesInFlatRam :
    wrappedJump.run = .running ∧ flagsOk wrappedJump.f = true ∧ wrappedJump.params.memModel = .flatRam ∧
      wrappedJump.params.depopulated.contains (Instr.jp_nn 0x1234).opcode = false ∧
      decode [Memory.read wrappedJump.mem wrappedJump.pc.toNat, Memory.read wrappedJump.mem (wrappedJump.pc + 1).toNat,
        Memory.read wrappedJump.mem (wrappedJump.pc + 2).toNat] = .ok (.jp_nn 0x1234, []) :=
  ⟨rfl, rfl, rfl, rfl, rfl⟩

/-- An opcode outside S_def, and one left out of POPULATED. -/
theorem witness_UndefinedOpcodeFaults :
    (vector 0xD3).run = .running ∧ flagsOk (vector 0xD3).f = true ∧ busAnswer (vector 0xD3) (vector 0xD3).pc ∈ undefinedOpcodes ∧
      vectorParams.depopulated.contains 0x3C = false ∧
      ({ vectorParams with depopulated := [0x3C] } : Params).depopulated.contains (busAnswer (vector 0x3C) 0x0200) = true := by
  decide

theorem witness_FaultedIsTerminal : ({ vector 0x00 with run := .faulted } : State).run = .faulted := rfl

theorem witness_RunningStepAlwaysAnswersNext : State.reset.run = .running ∧ flagsOk State.reset.f = true := by decide

theorem witness_FaultsArePrecise :
    ∃ t, step (vector 0xD3) = .next t ∧ t.run = .faulted ∧ t.fault = some (.undefinedOpcode 0x0200 0xD3) :=
  ⟨_, rfl, rfl, rfl⟩

/-- A state with bytes in memory and one that has faulted meet the invariant, and a step leaves the first. -/
theorem witness_StepKeepsInvariant :
    (vector 0x34).Inv ∧ (∃ t, step (vector 0x34) = .next t) ∧ (vector 0xD3).Inv ∧ ∃ t, step (vector 0xD3) = .next t ∧
      t.run = .faulted :=
  ⟨⟨rfl, ⟨fun _ => rfl, fun _ => rfl⟩, by decide⟩, ⟨_, rfl⟩, ⟨rfl, ⟨fun _ => rfl, fun _ => rfl⟩, by decide⟩, _, rfl, rfl⟩

/-- A state reached by a step and one reached by a boundary action. -/
theorem witness_ReachableStatesKeepInvariant :
    (vector 0x34).Inv ∧ (∃ t, Reaches (vector 0x34) t ∧ t.pc = 0x0201) ∧
      ∃ t, Reaches (vector 0x34) t ∧ t.ifr = 0x1F :=
  ⟨⟨rfl, ⟨fun _ => rfl, fun _ => rfl⟩, by decide⟩, ⟨_, .byStep (.here _) rfl, rfl⟩,
    _, .byBoundary (.setIF 0x1F) (.here _) rfl, rfl⟩

/-- The low nibble at both sides of the refusal. -/
theorem witness_StartupGivesBootState :
    flagsOk dmgBootRegs.f = true ∧ flagsOk ({ dmgBootRegs with f := 0xF0 } : BootRegs).f = true ∧
      flagsOk ({ dmgBootRegs with f := 0xF1 } : BootRegs).f = false := by decide

/-- The indices where the clauses meet, and a destination whose fault discards a write made before it. -/
theorem witness_RegisterFileRefusesBadIndex :
    read8 (vector 0x00) 0 = .ok 0x01 ∧ read8 (vector 0x00) 5 = .ok 0x00 ∧ read8 (vector 0x00) 7 = .ok 0x3C ∧
      read8 (vector 0x00) 6 = .error (.invalidRegisterIndex 6) ∧ read8 (vector 0x00) 8 = .error (.invalidRegisterIndex 8) ∧
      read16 (vector 0x00) 0 = .ok 0x010F ∧ read16 (vector 0x00) 2 = .ok 0xC000 ∧
      read16 (vector 0x00) 3 = .error (.invalidRegisterIndex 3) ∧
      orRaise (vector 0x00) (write8 { vector 0x00 with a := 0xFF } 6 0x55) (advance 0x00 1) =
        raise (.invalidRegisterIndex 6) (vector 0x00) :=
  ⟨rfl, rfl, rfl, rfl, rfl, rfl, rfl, rfl, rfl⟩

/-- A state under each memory model; the word read wraps at the top. -/
theorem witness_MemoryAnswersByModel :
    (vector 0x00).params.memModel = .flatRam ∧ Memory.wf (vector 0x00).mem = true ∧
      (readByte (writeByte (vector 0x00) 0xFFFF 0x99) 0xFFFF).1 = 0x99 ∧
      (readWord (writeByte (vector 0x00) 0xFFFF 0x99) 0xFFFF).1 = 0x0099 ∧
      ({ vector 0x00 with params := { vectorParams with memModel := .oracle } } : State).params.memModel = .oracle :=
  ⟨rfl, by decide, by decide, by decide, rfl⟩

theorem witness_MoveCopiesRegister : (Reg8.a = Reg8.a) ∧ Instr.ld .a .a = .ld_a_a ∧ Instr.ld .b .c = .ld_b_c :=
  ⟨rfl, rfl, rfl⟩

/-- The operand at which the two modes part, and the two beside it at which they do not. -/
theorem witness_CarryModesDifferOnlyAtFullOperand :
    (flagADC .exact 0x42 0xFF true).2.c = true ∧ (flagADC .wrappedCompare 0x42 0xFF true).2.c = false ∧
      (flagADC .exact 0x42 0xFF false).2.c = (flagADC .wrappedCompare 0x42 0xFF false).2.c ∧
      (flagSBC .exact 0x42 0xFE true).2.c = (flagSBC .wrappedCompare 0x42 0xFE true).2.c := by decide

/-- The displacements of the two last clauses, and the two ends of the range. -/
theorem witness_JumpRelative :
    relTarget 0x0200 0x00 = 0x0202 ∧ relTarget 0x0200 0xFE = 0x0200 ∧ relTarget 0x0200 0x80 = 0x0182 ∧
      relTarget 0x0200 0x7F = 0x0281 := by decide

/-- JR Z on both sides of its condition, JR e and JP nn. -/
theorem witness_ConditionsReadTheFlags :
    (∃ t, exec (Instr.jr .z 0x05) { vector 0x28 with f := 0x80 } = .next t ∧ t.pc = 0x0207) ∧
      (∃ t, exec (Instr.jr .z 0x05) (vector 0x28) = .next t ∧ t.pc = 0x0202) ∧
      (∃ t, exec (.jr_e 0xFE) (vector 0x18) = .next t) ∧ ∃ t, exec (.jp_nn 0xFFFF) (vector 0xC3) = .next t :=
  ⟨⟨_, rfl, rfl⟩, ⟨_, rfl, rfl⟩, ⟨_, rfl⟩, _, rfl⟩

theorem witness_JumpAbsolute :
    wrappedJump.run = .running ∧ flagsOk wrappedJump.f = true ∧ wrappedJump.params.memModel = .flatRam ∧
      wrappedJump.params.depopulated.contains 0xC3 = false ∧ Memory.read wrappedJump.mem wrappedJump.pc.toNat = 0xC3 := by
  decide

theorem witness_AbsoluteTransfers :
    (start [0xFA, 0x00, 0x02]).params.memModel = .flatRam ∧
      Memory.read (start [0xFA, 0x00, 0x02]).mem (start [0xFA, 0x00, 0x02]).pc.toNat = 0xFA ∧
      (0x0200 : Word) = (start [0xFA, 0x00, 0x02]).pc := by decide

/-- Reset with flat RAM. -/
def zeroedRam : State := { State.reset with params := vectorParams }

theorem witness_NopAdvancesOnly :
    zeroedRam.run = .running ∧ flagsOk zeroedRam.f = true ∧ zeroedRam.params.memModel = .flatRam ∧
      zeroedRam.params.depopulated.contains 0x00 = false ∧ ∀ a : Word, Memory.read zeroedRam.mem a.toNat = 0x00 :=
  ⟨rfl, rfl, rfl, rfl, fun _ => rfl⟩

theorem witness_DiClearsIme : State.reset.ime = false ∧ ({ State.reset with ime := true } : State).ime = true := by decide

/-- An instruction with a destination, and a register outside it. -/
theorem witness_RegisterFrame :
    (∃ t, exec .ld_a_at_hli (vector 0x2A) = .next t) ∧ Reg8.b ∉ Instr.ld_a_at_hli.destRegs ∧
      Reg8.h ∈ Instr.ld_a_at_hli.destRegs ∧ Instr.destRegs .cp_b = [] :=
  ⟨⟨_, rfl⟩, by decide, by decide, rfl⟩

/-- An instruction for each clause. -/
theorem witness_FlagFrame :
    (∃ t, exec .ld_a_b (vector 0x78) = .next t) ∧ Instr.ld_a_b.writesFlags = false ∧
      (∃ t, exec .add_a_b (vector 0x80) = .next t) ∧ Instr.add_a_b.writesFlags = true ∧
      (∃ t, exec .inc_at_hl (vector 0x34) = .next t) ∧ Instr.inc_at_hl.keepsCarry = true ∧
      (∃ t, exec .add_hl_sp (vector 0x39) = .next t) ∧ Instr.add_hl_sp = Instr.addHL .sp ∧
      ({ vectorParams with add16Z := .unaffected } : Params).add16Z = .unaffected :=
  ⟨⟨_, rfl⟩, rfl, ⟨_, rfl⟩, rfl, ⟨_, rfl⟩, rfl, ⟨_, rfl⟩, rfl, rfl⟩

/-- A form that stores, at the top of memory, and one that stores nothing. -/
theorem witness_MemoryFrame :
    (∃ t, exec (.ldh_at_n_a 0xFF) (vector 0xE0) = .next t) ∧
      storeAddr (.ldh_at_n_a 0xFF) (vector 0xE0) = some 0xFFFF ∧ storeAddr .add_a_at_hl (vector 0x86) = none :=
  ⟨⟨_, rfl⟩, rfl, rfl⟩

/-- An instruction inside and one outside each set. -/
theorem witness_SpecialRegisterFrame :
    (∃ t, exec .inc_sp (vector 0x33) = .next t) ∧ Instr.inc_sp.writesSP = true ∧ Instr.inc_hl.writesSP = false ∧
      Instr.ei.writesIME = true ∧ Instr.inc_sp.writesIME = false ∧ Instr.inc_sp.isUndefined = false :=
  ⟨⟨_, rfl⟩, rfl, rfl, rfl, rfl, rfl⟩

/-- An instruction that reads and then writes, and one that does neither. -/
theorem witness_AccessesInOrder :
    (∃ t, exec .dec_at_hl (vector 0x35) = .next t) ∧ storeAddr .dec_at_hl (vector 0x35) = some 0xC000 ∧
      loadAddr .dec_at_hl (vector 0x35) = some 0xC000 ∧ loadAddr .nop (vector 0x00) = none :=
  ⟨⟨_, rfl⟩, rfl, rfl, rfl⟩

/-- A step that completes and one that faults, and a run of both (section 2.10: 2 after it), under the unbounded counter. -/
theorem witness_CycleAccounting :
    (vector 0x00).params.cycleWidth = none ∧ (∃ t, step (vector 0x00) = .next t ∧ t.run = .running ∧ t.cyclesTotal = 2) ∧
      (∃ t, step (vector 0xD3) = .next t ∧ t.run = .faulted ∧ t.cyclesTotal = 0) ∧
      (∃ t, runSteps 2 (start [0x41, 0xD3]) = .next t ∧ t.run = .faulted ∧ t.cyclesTotal = 2) ∧
      executedCosts 2 (start [0x41, 0xD3]) = [1] ∧
      ∃ t, runSteps 1 (vector 0x00) = .next t ∧ t.run = .running :=
  ⟨rfl, ⟨_, rfl, rfl, rfl⟩, ⟨_, rfl, rfl, rfl⟩, ⟨_, rfl, rfl, rfl⟩, rfl, _, rfl, rfl⟩

theorem witness_InterruptAndCycleStateIsNotRead :
    (∃ t, step (vector 0xFB) = .next t ∧ t.ime = true) ∧ ∃ t, step (vector 0xD3) = .next t ∧ t.run = .faulted :=
  ⟨⟨_, rfl, rfl⟩, _, rfl, rfl⟩

/-- At reset MEM is the external oracle: the first byte read is its free answer (00_scope.md R9). -/
theorem test_reset_reads_the_oracle :
    (readByte State.reset State.reset.pc).1 = Config.oracleByte [] 0x0100 := rfl

theorem witness_BoundaryActionsWriteOneRegister :
    (vector 0x00).run = .running ∧ flagsOk (vector 0x00).f = true := by decide

end Sys2Proof.Tests
end

/-! ### Proofs: what an instruction leaves unchanged -/

namespace Sys2Proof.Machine

/-- What the instruction `i` may change on the way from `s` to `t`: the registers of its row in spec/10_state.md R36; F, SP and IME
where the rules say it writes them; the sequencer where it is the unpopulated slot; the pc, the cycle total and the access history.
F's low nibble and canonical memory are kept. A field that holds by computation is filled in by its default. -/
structure Frame (i : Instr) (s t : State) : Prop where
  reg : ∀ r, r ∉ i.destRegs → t.reg r = s.reg r := by intro r _; cases r <;> rfl
  f : i.writesFlags = false → t.f = s.f := by simp
  flagsOk : flagsOk s.f = true → flagsOk t.f = true := by simp
  sp : i.writesSP = false → t.sp = s.sp := by simp
  ime : i.writesIME = false → t.ime = s.ime := by simp
  ie : t.ie = s.ie := by simp
  ifr : t.ifr = s.ifr := by simp
  params : t.params = s.params := by simp
  sequencer : i.isUndefined = false → t.run = s.run ∧ t.fault = s.fault := by simp
  memWf : Memory.wf s.mem = true → Memory.wf t.mem = true := by simp

/-- The outcome `o` of the instruction `i` begun in `s` is a next state within the frame of `i`. -/
def Framed (i : Instr) (s : State) (o : Out) : Prop := ∃ t, o = .next t ∧ Frame i s t

/-- JR cc,e ends the instruction with the target and the cost that its condition selects (spec/43_jumps.md R192). -/
theorem jumpIf_eq (cc : Cond) (e : Byte) (s : State) :
    jumpIf cc e s =
      finish (if condHolds cc s.f then relTarget s.pc e else s.pc + 2)
        (if condHolds cc s.f then jrTakenCost else jrNotTakenCost) s := by
  unfold jumpIf
  split <;> rfl

namespace Frame
variable {i : Instr} {s t u : State}

/-! Frames compose: the frame of a meaning is put together from those of its operations. -/

theorem refl : Frame i s s where

theorem trans (h : Frame i s t) (h' : Frame i t u) : Frame i s u where
  reg r hr := (h'.reg r hr).trans (h.reg r hr)
  f hi := (h'.f hi).trans (h.f hi)
  flagsOk hf := h'.flagsOk (h.flagsOk hf)
  sp hi := (h'.sp hi).trans (h.sp hi)
  ime hi := (h'.ime hi).trans (h.ime hi)
  ie := h'.ie.trans h.ie
  ifr := h'.ifr.trans h.ifr
  params := h'.params.trans h.params
  sequencer hi := by
    obtain ⟨hrun, hfault⟩ := h.sequencer hi
    obtain ⟨hrun', hfault'⟩ := h'.sequencer hi
    exact ⟨hrun'.trans hrun, hfault'.trans hfault⟩
  memWf hm := h'.memWf (h.memWf hm)

/-! One rule for each operation on the state that a meaning uses. -/

theorem setReg {r : Reg8} (v : Byte) (hr : r ∈ i.destRegs) : Frame i s (s.setReg r v) where
  reg r' hr' := by rw [reg_setReg, if_neg (by rintro rfl; exact hr' hr)]

theorem setPair {p : Pair} (v : Word) (hp : p.halves ⊆ i.destRegs) (hsp : p = .sp → i.writesSP = true) :
    Frame i s (s.setPair p v) where
  reg r hr := reg_setPair_of_not_mem s p v r fun h => hr (hp h)
  sp hi := setPair_sp_of_ne s p v fun h => by simp [hsp h] at hi

theorem setFlags (x : Flags) (hi : i.writesFlags = true) : Frame i s { s with f := packFlags x } where
  f hi' := by simp [hi] at hi'

theorem setIME (v : Bool) (hi : i.writesIME = true) : Frame i s { s with ime := v } where
  ime hi' := by simp [hi] at hi'

theorem record (x : Access) : Frame i s (s.record x) where

theorem writeByte (a : Word) (v : Byte) : Frame i s (writeByte s a v) where
  memWf := writeByte_wf s a v

theorem readInto {r : Reg8} (x : Access) (v : Byte) (hr : r ∈ i.destRegs) : Frame i s ((s.record x).setReg r v) :=
  (record x).trans (setReg v hr)

theorem aluWrite {op : AluOp} (b : Byte) (hi : i.writesFlags = true) (ha : op ≠ .cp → .a ∈ i.destRegs) :
    Frame i s (aluWrite op b s) := by
  rw [aluWrite_eq]
  split
  · exact setFlags _ hi
  · next hop => exact (setReg (r := .a) _ (ha hop)).trans (setFlags _ hi)

/-! One rule for each way an instruction ends, and for the loads and stores of A. -/

theorem finish (h : Frame i s t) (pc : Word) (cost : Nat) : Framed i s (finish pc cost t) :=
  ⟨_, rfl, h.trans {}⟩

theorem advance (h : Frame i s t) (op : Byte) (len : Nat) : Framed i s (advance op len t) := h.finish _ _

theorem raise (h : Frame i s t) (r : Fault) (hi : i.isUndefined = true) : Framed i s (raise r t) :=
  ⟨_, rfl, h.trans { sequencer := fun hi' => by simp [hi] at hi' }⟩

theorem loadA (op : Byte) (len : Nat) (a : Word) (ha : .a ∈ i.destRegs) : Framed i s (loadA op len a s) := by
  rw [loadA_eq]
  exact (readInto (r := .a) _ _ ha).advance _ _

theorem storeA (op : Byte) (len : Nat) (a : Word) : Framed i s (storeA op len a s) :=
  (writeByte a s.a).advance _ _

theorem loadAThenHL (op : Byte) (next : Word) (hi : i.destRegs = [.a, .h, .l]) : Framed i s (loadAThenHL op next s) := by
  rw [loadAThenHL_eq]
  exact ((readInto (r := .a) _ _ (by simp [hi])).trans
    (setPair (p := .hl) next (by simp [hi, Pair.halves]) (by simp))).advance _ _

theorem storeAThenHL (op : Byte) (next : Word) (hi : i.destRegs = [.h, .l]) : Framed i s (storeAThenHL op next s) := by
  rw [storeAThenHL_eq]
  exact ((writeByte _ _).trans (setPair (p := .hl) next (by simp [hi, Pair.halves]) (by simp))).advance _ _

end Frame

/-- Every instruction answers a next state, and changes no more than its frame allows. -/
theorem exec_framed (i : Instr) (s : State) : Framed i s (exec i s) := by
  induction i using Instr.byFamily with
  | ld dst src => rw [exec_ld, moveReg_eq]; exact (Frame.setReg _ (by simp)).advance _ _
  | ldFromHL r => rw [exec_ldFromHL, loadRegFromHL_eq]; exact (Frame.readInto _ _ (by simp)).advance _ _
  | ldToHL r => rw [exec_ldToHL, storeRegToHL_eq]; exact (Frame.writeByte _ _).advance _ _
  | ldImm r n => rw [exec_ldImm, loadRegImm_eq]; exact (Frame.setReg _ (by simp)).advance _ _
  | ldPair p nn => rw [exec_ldPair, loadPairImm_eq]; exact (Frame.setPair _ (by simp) (by simp)).advance _ _
  | inc r =>
    rw [exec_inc, incReg_eq]
    exact ((Frame.setReg _ (by simp)).trans (.setFlags _ (by simp))).advance _ _
  | dec r =>
    rw [exec_dec, decReg_eq]
    exact ((Frame.setReg _ (by simp)).trans (.setFlags _ (by simp))).advance _ _
  | incPair p => rw [exec_incPair, incPairBy1_eq]; exact (Frame.setPair _ (by simp) (by simp)).advance _ _
  | decPair p => rw [exec_decPair, decPairBy1_eq]; exact (Frame.setPair _ (by simp) (by simp)).advance _ _
  | alu op r => rw [exec_alu, aluReg_eq]; exact (Frame.aluWrite _ (by simp) (by simp)).advance _ _
  | aluAtHL op =>
    rw [exec_aluAtHL, aluAtHL_eq]
    exact ((Frame.record _).trans (.aluWrite _ (by simp) (by simp))).advance _ _
  | aluImm op n => rw [exec_aluImm, aluImm]; exact (Frame.aluWrite _ (by simp) (by simp)).advance _ _
  | addHL p =>
    rw [exec_addHL, addToHL_eq]
    exact ((Frame.setPair _ (by simp [Pair.halves]) (by simp)).trans (.setFlags _ (by simp))).advance _ _
  | jr cc e => rw [exec_jr, jumpIf_eq]; exact Frame.refl.finish _ _
  | nop => exact Frame.refl.advance _ _
  | di => exact (Frame.setIME _ rfl).advance _ _
  | ei => exact (Frame.setIME _ rfl).advance _ _
  | undefined op => exact Frame.refl.raise _ rfl
  | jr_e e => exact Frame.refl.finish _ _
  | jp_nn nn => exact Frame.refl.finish _ _
  | ld_at_hl_n n => exact (Frame.writeByte _ _).advance _ _
  | inc_at_hl => exact (((Frame.record _).trans (.writeByte _ _)).trans (.setFlags _ rfl)).advance _ _
  | dec_at_hl => exact (((Frame.record _).trans (.writeByte _ _)).trans (.setFlags _ rfl)).advance _ _
  | ld_at_bc_a => exact Frame.storeA _ _ _
  | ld_at_de_a => exact Frame.storeA _ _ _
  | ld_at_hli_a => exact Frame.storeAThenHL _ _ rfl
  | ld_at_hld_a => exact Frame.storeAThenHL _ _ rfl
  | ld_a_at_bc => exact Frame.loadA _ _ _ (.head _)
  | ld_a_at_de => exact Frame.loadA _ _ _ (.head _)
  | ld_a_at_hli => exact Frame.loadAThenHL _ _ rfl
  | ld_a_at_hld => exact Frame.loadAThenHL _ _ rfl
  | ldh_at_n_a n => exact Frame.storeA _ _ _
  | ldh_a_at_n n => exact Frame.loadA _ _ _ (.head _)
  | ld_at_nn_a nn => exact Frame.storeA _ _ _
  | ld_a_at_nn nn => exact Frame.loadA _ _ _ (.head _)

/-- What every statement about an instruction that answers a next state is read off from. -/
theorem frame_of_exec {i : Instr} {s t : State} (h : exec i s = .next t) : Frame i s t := by
  obtain ⟨u, hu, hf⟩ := exec_framed i s
  cases hu.symm.trans h
  exact hf

/-! ### What the instructions that write F write to it -/

@[simp] theorem aluWrite_f (op : AluOp) (b : Byte) (s : State) :
    (aluWrite op b s).f = packFlags (aluResult s.params op s.a b (flagC s.f)).2 := by rw [aluWrite_eq]

/-- An instruction that writes F writes packed flags (10_state.md R28), and where it keeps the carry they carry the old one. -/
theorem exec_writes_packed_flags (i : Instr) (s : State) (hi : i.writesFlags = true) :
    ∃ t x, exec i s = .next t ∧ t.f = packFlags x ∧ (i.keepsCarry = true → x.c = flagC s.f) := by
  induction i using Instr.byFamily with
  | inc r => exact ⟨_, _, (exec_inc r s).trans (incReg_eq _ r s), rfl, fun _ => rfl⟩
  | dec r => exact ⟨_, _, (exec_dec r s).trans (decReg_eq _ r s), rfl, fun _ => rfl⟩
  | inc_at_hl => exact ⟨_, _, rfl, rfl, fun _ => rfl⟩
  | dec_at_hl => exact ⟨_, _, rfl, rfl, fun _ => rfl⟩
  | alu op r => exact ⟨_, _, (exec_alu op r s).trans (aluReg_eq _ op r s), aluWrite_f op _ s, by simp⟩
  | aluAtHL op => exact ⟨_, _, (exec_aluAtHL op s).trans (aluAtHL_eq _ op s), aluWrite_f op _ _, by simp⟩
  | aluImm op n => exact ⟨_, _, exec_aluImm op n s, aluWrite_f op n s, by simp⟩
  | addHL p => exact ⟨_, _, (exec_addHL p s).trans (addToHL_eq _ p s), rfl, by simp⟩
  | ld _ _ | ldFromHL _ | ldToHL _ | ldImm _ _ | ldPair _ _ | incPair _ | decPair _ | jr _ _ => simp at hi
  | _ => cases hi

theorem packed_flags_of_exec {i : Instr} {s t : State} (h : exec i s = .next t) (hi : i.writesFlags = true) :
    ∃ x, t.f = packFlags x ∧ (i.keepsCarry = true → x.c = flagC s.f) := by
  obtain ⟨u, x, hu, hx⟩ := exec_writes_packed_flags i s hi
  cases hu.symm.trans h
  exact ⟨x, hx⟩

theorem writesFlags_of_keepsCarry (i : Instr) (hi : i.keepsCarry = true) : i.writesFlags = true := by
  induction i using Instr.byFamily with
  | inc _ | dec _ => simp
  | inc_at_hl | dec_at_hl => rfl
  | ld _ _ | ldFromHL _ | ldToHL _ | ldImm _ _ | ldPair _ _ | incPair _ | decPair _ | alu _ _ | aluAtHL _ | aluImm _ _
  | addHL _ | jr _ _ => simp at hi
  | _ => cases hi

/-- ADD HL,rr keeps Z where `ADD16_Z` is `unaffected` (42_alu.md R152). -/
theorem flagZ_of_exec_addHL {p : Pair} {s t : State} (h : exec (Instr.addHL p) s = .next t)
    (hz : s.params.add16Z = .unaffected) : flagZ t.f = flagZ s.f := by
  rw [exec_addHL, addToHL_eq, advance_eq] at h
  cases h
  simp [flagADD16, hz]

/-- Settles O50: the first field of the instruction's frame. -/
theorem registerFrame : Obligations.RegisterFrame := fun _ _ _ h => (frame_of_exec h).reg

/-- Settles O51: F is kept by the frame where it is not written, and packed where it is. -/
theorem flagFrame : Obligations.FlagFrame := by
  intro i s t h
  refine ⟨(frame_of_exec h).f, fun hi => ?_, fun hi => ?_, fun p hp hz => ?_⟩
  · obtain ⟨x, hx, -⟩ := packed_flags_of_exec h hi
    simp [hx]
  · obtain ⟨x, hx, hc⟩ := packed_flags_of_exec h (writesFlags_of_keepsCarry i hi)
    simp [hx, hc hi]
  · subst hp
    exact flagZ_of_exec_addHL h hz

/-- Settles O53: the remaining fields of the instruction's frame. -/
theorem specialRegisterFrame : Obligations.SpecialRegisterFrame := fun _ _ _ h =>
  have hf := frame_of_exec h
  ⟨hf.sp, hf.ime, hf.ie, hf.ifr, hf.params, hf.sequencer⟩

end Sys2Proof.Machine

/-! ### Proofs: the invariant -/

namespace Sys2Proof.Machine

theorem exists_eq_undefined {i : Instr} (hi : i.isUndefined = true) : ∃ op, i = .undefined op := by
  cases i with
  | undefined op => exact ⟨op, rfl⟩
  | _ => cases hi

theorem inv_of_exec {i : Instr} {s t : State} (hs : s.Inv) (h : exec i s = .next t) : t.Inv := by
  obtain ⟨hf, hrun, hmem⟩ := hs
  have frame := frame_of_exec h
  refine ⟨frame.flagsOk hf, ?_, frame.memWf hmem⟩
  cases hi : i.isUndefined with
  | false =>
    obtain ⟨hr, hfault⟩ := frame.sequencer hi
    rw [hr, hfault, hrun]
  | true =>
    obtain ⟨op, rfl⟩ := exists_eq_undefined hi
    cases h
    exact ⟨nofun, nofun⟩

/-- A step that answers a next state executes an instruction in a state that differs in the access history only. -/
theorem exec_of_step {s t : State} (h : step s = .next t) :
    ∃ i xs, exec i { s with history := xs ++ s.history } = .next t := by
  obtain ⟨-, -, hexec⟩ := step_cases s t h
  obtain ⟨xs, hfetch⟩ := fetchInstr_state s
  exact ⟨_, xs, hfetch ▸ hexec⟩

theorem inv_of_step {s t : State} (hs : s.Inv) (h : step s = .next t) : t.Inv := by
  obtain ⟨i, xs, hexec⟩ := exec_of_step h
  exact inv_of_exec (s := { s with history := xs ++ s.history }) hs hexec

theorem params_of_step {s t : State} (h : step s = .next t) : t.params = s.params := by
  obtain ⟨i, xs, hexec⟩ := exec_of_step h
  exact (frame_of_exec hexec).params

theorem inv_of_boundary {x : BoundaryAction} {s t : State} (hs : s.Inv) (h : boundary x s = .next t) : t.Inv := by
  obtain ⟨-, -, ⟨v, -, rfl⟩ | ⟨v, -, rfl⟩ | ⟨v, -, rfl⟩⟩ := boundary_cases x s t h <;> exact hs

theorem params_of_boundary {x : BoundaryAction} {s t : State} (h : boundary x s = .next t) : t.params = s.params := by
  obtain ⟨-, -, ⟨v, -, rfl⟩ | ⟨v, -, rfl⟩ | ⟨v, -, rfl⟩⟩ := boundary_cases x s t h <;> rfl

/-- Settles O14: the frame keeps F, the sequencer and memory, and the unpopulated slot sets both run and the record. -/
theorem stepKeepsInvariant : Obligations.StepKeepsInvariant := fun _ _ => inv_of_step

/-- Settles O15, by induction on how the state is reached. -/
theorem reachableStatesKeepInvariant : Obligations.ReachableStatesKeepInvariant := by
  intro s t hs hreach
  induction hreach with
  | here => exact ⟨hs, rfl⟩
  | byStep _ hstep ih => exact ⟨inv_of_step ih.1 hstep, (params_of_step hstep).trans ih.2⟩
  | byBoundary x _ hx ih => exact ⟨inv_of_boundary ih.1 hx, (params_of_boundary hx).trans ih.2⟩

end Sys2Proof.Machine

/-! ### Proofs: the fields that no step reads -/

namespace Sys2Proof.Machine

/-- Values for the fields that no step reads (10_state.md R21, R32 to R34; 70_reset_and_hazards.md R286). -/
structure Unread where
  ime : Bool
  ie : Byte
  ifr : Byte
  cyclesTotal : Nat
  doubleSpeed : Bool

/-- The state with the unread fields replaced. -/
def State.setUnread (s : State) (x : Unread) : State :=
  { s with ime := x.ime, ie := x.ie, ifr := x.ifr, cyclesTotal := x.cyclesTotal,
           params := { s.params with doubleSpeed := x.doubleSpeed } }

section
variable (s : State) (x : Unread)

/-! What a meaning reads of a state is not touched, and what it writes commutes with the replacement. -/

@[simp] theorem setUnread_f : (s.setUnread x).f = s.f := rfl
@[simp] theorem setUnread_pc : (s.setUnread x).pc = s.pc := rfl
@[simp] theorem setUnread_hl : (s.setUnread x).hl = s.hl := rfl
@[simp] theorem setUnread_reg (r : Reg8) : (s.setUnread x).reg r = s.reg r := by cases r <;> rfl
@[simp] theorem setUnread_pair (p : Pair) : (s.setUnread x).pair p = s.pair p := by cases p <;> rfl
@[simp] theorem busAnswer_setUnread (a : Word) : busAnswer (s.setUnread x) a = busAnswer s a := rfl
@[simp] theorem record_setUnread (y : Access) : (s.setUnread x).record y = (s.record y).setUnread x := rfl
@[simp] theorem setReg_setUnread (r : Reg8) (v : Byte) : (s.setUnread x).setReg r v = (s.setReg r v).setUnread x := by
  cases r <;> rfl
@[simp] theorem setPair_setUnread (p : Pair) (v : Word) : (s.setUnread x).setPair p v = (s.setPair p v).setUnread x := by
  cases p <;> rfl
@[simp] theorem aluWrite_setUnread (op : AluOp) (b : Byte) :
    aluWrite op b (s.setUnread x) = (aluWrite op b s).setUnread x := by cases op <;> rfl
@[simp] theorem writeByte_setUnread (a : Word) (v : Byte) :
    writeByte (s.setUnread x) a v = (writeByte s a v).setUnread x := rfl

/-- The fetch reads none of the fields: it finds the same instruction. -/
theorem fetchInstr_setUnread :
    fetchInstr (s.setUnread x) = ((fetchInstr s).1, (fetchInstr s).2.setUnread x) := by
  rw [fetchInstr_eq, fetchInstr_eq]
  simp only [setUnread_pc, busAnswer_setUnread]
  rw [show slotOf (s.setUnread x).params (busAnswer s s.pc) = slotOf s.params (busAnswer s s.pc) from rfl]
  cases slotOf s.params (busAnswer s s.pc) <;> rfl

end

/-- Two outcomes are next states that differ in the unread fields only; the second has the IE, IF and DOUBLE_SPEED of `x`. -/
def Agree (x : Unread) (o o' : Out) : Prop :=
  ∃ t ime total, o = .next t ∧ o' = .next (t.setUnread { x with ime := ime, cyclesTotal := total })

namespace Agree
variable {s s' : State} {x : Unread}

theorem finish (h : s' = s.setUnread x) (pc : Word) (cost : Nat) :
    Agree x (finish pc cost s) (finish pc cost s') := by
  subst h
  exact ⟨_, _, _, rfl, rfl⟩

theorem advance (h : s' = s.setUnread x) (op : Byte) (len : Nat) :
    Agree x (advance op len s) (advance op len s') := by
  subst h
  exact ⟨_, _, _, rfl, rfl⟩

end Agree

/-- No instruction reads the unread fields, and none writes IE, IF or DOUBLE_SPEED. -/
theorem exec_setUnread (i : Instr) (s : State) (x : Unread) : Agree x (exec i s) (exec i (s.setUnread x)) := by
  induction i using Instr.byFamily with
  | ld dst src => simp only [exec_ld, moveReg_eq]; exact .advance (by simp) _ _
  | ldFromHL r => simp only [exec_ldFromHL, loadRegFromHL_eq]; exact .advance (by simp) _ _
  | ldToHL r => simp only [exec_ldToHL, storeRegToHL_eq]; exact .advance (by simp) _ _
  | ldImm r n => simp only [exec_ldImm, loadRegImm_eq]; exact .advance (by simp) _ _
  | ldPair p nn => simp only [exec_ldPair, loadPairImm_eq]; exact .advance (by simp) _ _
  | inc r => simp only [exec_inc, incReg_eq, setUnread_reg, setUnread_f, setReg_setUnread]; exact .advance rfl _ _
  | dec r => simp only [exec_dec, decReg_eq, setUnread_reg, setUnread_f, setReg_setUnread]; exact .advance rfl _ _
  | incPair p => simp only [exec_incPair, incPairBy1_eq]; exact .advance (by simp) _ _
  | decPair p => simp only [exec_decPair, decPairBy1_eq]; exact .advance (by simp) _ _
  | alu op r => simp only [exec_alu, aluReg_eq]; exact .advance (by simp) _ _
  | aluAtHL op => simp only [exec_aluAtHL, aluAtHL_eq]; exact .advance (by simp) _ _
  | aluImm op n => simp only [exec_aluImm, aluImm]; exact .advance (by simp) _ _
  | addHL p => simp only [exec_addHL, addToHL_eq, setUnread_pair, setPair_setUnread]; exact .advance rfl _ _
  | jr cc e => simp only [exec_jr, jumpIf_eq, setUnread_f]; exact .finish rfl _ _
  | _ => exact ⟨_, _, _, rfl, rfl⟩

/-- Two runs of one step (R21): from states that differ in the unread fields only, the steps answer such states. -/
theorem step_setUnread {s t : State} (h : step s = .next t) (x : Unread) :
    ∃ ime total, step (s.setUnread x) = .next (t.setUnread { x with ime := ime, cyclesTotal := total }) := by
  obtain ⟨hr, hf, hexec⟩ := step_cases s t h
  obtain ⟨u, ime, total, hu, hu'⟩ := exec_setUnread (fetchInstr s).1 (fetchInstr s).2 x
  cases hexec.symm.trans hu
  exact ⟨ime, total, by rw [step_of_running (s.setUnread x) hr hf, fetchInstr_setUnread, hu']⟩

/-- Settles O57: replacing the unread fields commutes with the step. -/
theorem interruptAndCycleStateIsNotRead : Obligations.InterruptAndCycleStateIsNotRead := by
  intro s t ime fast ie ifr total h
  obtain ⟨ime', total', hstep⟩ := step_setUnread h ⟨ime, ie, ifr, total, fast⟩
  refine ⟨_, hstep, rfl, rfl, rfl, ?_⟩
  rw [← params_of_step h]
  rfl

end Sys2Proof.Machine

/-! ### Proofs: the register file, and the state after reset and startup -/

namespace Sys2Proof.Machine

/-- The indices that name an 8-bit register are the decoder's field values (10_state.md R22, 30_encoding.md R72). -/
theorem exists_index_eq {i : Nat} (hi : i < 8) (h6 : i ≠ 6) : ∃ r : Reg8, i = r.index := by
  interval_cases i
  · exact ⟨.b, rfl⟩
  · exact ⟨.c, rfl⟩
  · exact ⟨.d, rfl⟩
  · exact ⟨.e, rfl⟩
  · exact ⟨.h, rfl⟩
  · exact ⟨.l, rfl⟩
  · exact absurd rfl h6
  · exact ⟨.a, rfl⟩

theorem regAt_eq_none {i : Nat} (hi : i = 6 ∨ 8 ≤ i) : regAt i = none := by
  obtain rfl | hi := hi
  · rfl
  · rw [regAt] <;> omega

theorem pairAt_eq_none {i : Nat} (hi : 3 ≤ i) : pairAt i = none := by rw [pairAt] <;> omega

theorem exists_pairAt_eq {i : Nat} (hi : i < 3) : ∃ p : Pair, pairAt i = some p := by
  interval_cases i <;> exact ⟨_, rfl⟩

theorem read16_of_pairAt (s : State) {i : Nat} {p : Pair} (hp : pairAt i = some p) : read16 s i = .ok (s.pair p) := by
  rw [read16, hp]

theorem write16_of_pairAt (s : State) {i : Nat} {p : Pair} (w : Word) (hp : pairAt i = some p) :
    write16 s i w = .ok (s.setPair p w) := by
  rw [write16, hp]

theorem read8_bad_index (s : State) {i : Nat} (hi : i = 6 ∨ 8 ≤ i) : read8 s i = .error (.invalidRegisterIndex i) := by
  rw [read8, regAt_eq_none hi]

theorem write8_bad_index (s : State) {i : Nat} (v : Byte) (hi : i = 6 ∨ 8 ≤ i) :
    write8 s i v = .error (.invalidRegisterIndex i) := by
  rw [write8, regAt_eq_none hi]

theorem read16_bad_index (s : State) {i : Nat} (hi : 3 ≤ i) : read16 s i = .error (.invalidRegisterIndex i) := by
  rw [read16, pairAt_eq_none hi]

theorem write16_bad_index (s : State) {i : Nat} (w : Word) (hi : 3 ≤ i) :
    write16 s i w = .error (.invalidRegisterIndex i) := by
  rw [write16, pairAt_eq_none hi]

@[simp] theorem pair_setPair_same (s : State) (p : Pair) (w : Word) : (s.setPair p w).pair p = w := by
  cases p
  case sp => rfl
  all_goals exact wordOf_halves w

/-- Settles O19, by what `regAt` and `pairAt` name. -/
theorem registerFileRefusesBadIndex : Obligations.RegisterFileRefusesBadIndex := by
  intro s i v w
  refine ⟨rfl, rfl, rfl, rfl, fun r => ⟨read8_index s r, write8_index s r v⟩, ?_,
    fun hi => ⟨read8_bad_index s hi, write8_bad_index s v hi⟩, ?_,
    fun hi => ⟨read16_bad_index s hi, write16_bad_index s w hi⟩, fun _ _ => rfl, fun s1 kByte kWord kState => ⟨?_, ?_⟩⟩
  · rintro ⟨hi, h6⟩
    obtain ⟨r, rfl⟩ := exists_index_eq hi h6
    exact ⟨⟨_, read8_index s r⟩, _, write8_index s r v, by simp⟩
  · intro hi
    obtain ⟨p, hp⟩ := exists_pairAt_eq hi
    exact ⟨⟨_, read16_of_pairAt s hp⟩, _, write16_of_pairAt s w hp, by simp [read16_of_pairAt _ hp]⟩
  · intro hi
    rw [read8_bad_index s1 hi, write8_bad_index s1 v hi]
    exact ⟨rfl, rfl⟩
  · intro hi
    rw [read16_bad_index s1 hi, write16_bad_index s1 w hi]
    exact ⟨rfl, rfl⟩

/-- Settles O20, by the numeric value of a word and of its two bytes. -/
theorem registerPairsShareStorage : Obligations.RegisterPairsShareStorage := by
  intro s v w
  have hword (hi lo : Byte) : (wordOf hi lo).toNat = 256 * hi.toNat + lo.toNat := by
    rw [wordOf_toNat, Nat.mul_comm]
  exact ⟨hword _ _, hword _ _, hword _ _, hword _ _, fun p => ⟨pair_setPair_same s p w, setPair_a s p w⟩,
    hiByte_toNat w, loByte_toNat w, hiByte_toNat w, loByte_toNat w, hiByte_toNat w, loByte_toNat w,
    rfl, rfl, rfl, rfl, rfl, rfl⟩

/-- Settles O16: the three parts are closed facts about the reset state. -/
theorem resetMeetsInvariant : Obligations.ResetMeetsInvariant := ⟨rfl, by decide, reset_mem_wf⟩

/-- Settles O17: each field computes. -/
theorem resetState : Obligations.ResetState :=
  ⟨rfl, rfl, rfl, rfl, rfl, rfl, rfl, rfl, rfl, rfl, rfl, rfl, rfl, rfl, rfl, rfl, rfl⟩

/-- Settles O18: startup answers `State.boot` or refuses, by the low nibble of F. -/
theorem startupGivesBootState : Obligations.StartupGivesBootState := by
  refine fun r p fast m => ⟨fun hf => ⟨_, if_pos hf, ?_⟩, fun hf => if_neg (by simp [hf])⟩
  exact ⟨rfl, rfl, rfl, rfl, rfl, rfl, rfl, rfl, rfl, rfl, rfl, rfl, rfl, rfl, rfl, rfl, rfl, rfl⟩

end Sys2Proof.Machine

/-! ### Proofs: memory and the accesses to it -/

namespace Sys2Proof.Machine

/-- The instruction `i`, begun in `s`, makes its data accesses on the way to `t`: at most a read at its load address, then at
most a write of `v` at its store address (20_memory.md R57, R58), and memory holds what was written (R67). A field that holds
by the laws of the state is filled in by its default. -/
structure DataAccesses (i : Instr) (s t : State) (v : Byte) : Prop where
  history : t.history =
    ((storeAddr i s).map fun a => Access.writeByte a v).toList ++
    ((loadAddr i s).map fun a => Access.readByte a (busAnswer s a)).toList ++ s.history := by simp
  mem : t.mem = (storeAddr i s).elim s.mem fun a => Memory.write s.mem a.toNat v := by simp

/-- Every instruction answers a next state, with its data accesses made and no others. Where it stores nothing, the byte
named is of no account. -/
theorem exec_dataAccesses (i : Instr) (s : State) : ∃ t v, exec i s = .next t ∧ DataAccesses i s t v := by
  induction i using Instr.byFamily with
  | ld dst src => exact ⟨_, 0, (exec_ld dst src s).trans (moveReg_eq _ dst src s), {}⟩
  | ldFromHL r => exact ⟨_, 0, (exec_ldFromHL r s).trans (loadRegFromHL_eq _ r s), {}⟩
  | ldToHL r => exact ⟨_, s.reg r, (exec_ldToHL r s).trans (storeRegToHL_eq _ r s), {}⟩
  | ldImm r n => exact ⟨_, 0, (exec_ldImm r n s).trans (loadRegImm_eq _ r n s), {}⟩
  | ldPair p nn => exact ⟨_, 0, (exec_ldPair p nn s).trans (loadPairImm_eq _ p nn s), {}⟩
  | inc r => exact ⟨_, 0, (exec_inc r s).trans (incReg_eq _ r s), {}⟩
  | dec r => exact ⟨_, 0, (exec_dec r s).trans (decReg_eq _ r s), {}⟩
  | incPair p => exact ⟨_, 0, (exec_incPair p s).trans (incPairBy1_eq _ p s), {}⟩
  | decPair p => exact ⟨_, 0, (exec_decPair p s).trans (decPairBy1_eq _ p s), {}⟩
  | alu op r => rw [exec_alu, aluReg_eq, aluWrite_eq]; exact ⟨_, 0, rfl, {}⟩
  | aluAtHL op => rw [exec_aluAtHL, aluAtHL_eq, aluWrite_eq]; exact ⟨_, 0, rfl, {}⟩
  | aluImm op n => rw [exec_aluImm, aluImm, aluWrite_eq]; exact ⟨_, 0, rfl, {}⟩
  | addHL p => exact ⟨_, 0, (exec_addHL p s).trans (addToHL_eq _ p s), {}⟩
  | jr cc e => exact ⟨_, 0, (exec_jr cc e s).trans (jumpIf_eq cc e s), {}⟩
  | nop | di | ei | undefined _ | jr_e _ | jp_nn _ => exact ⟨_, 0, rfl, rfl, rfl⟩
  | ld_a_at_bc | ld_a_at_de | ld_a_at_hli | ld_a_at_hld | ldh_a_at_n _ | ld_a_at_nn _ => exact ⟨_, 0, rfl, rfl, rfl⟩
  | ld_at_bc_a | ld_at_de_a | ld_at_hli_a | ld_at_hld_a | ldh_at_n_a _ | ld_at_nn_a _ => exact ⟨_, s.a, rfl, rfl, rfl⟩
  | ld_at_hl_n n => exact ⟨_, n, rfl, rfl, rfl⟩
  | inc_at_hl | dec_at_hl => exact ⟨_, _, rfl, rfl, rfl⟩

theorem dataAccesses_of_exec {i : Instr} {s t : State} (h : exec i s = .next t) : ∃ v, DataAccesses i s t v := by
  obtain ⟨u, v, hu, ha⟩ := exec_dataAccesses i s
  cases hu.symm.trans h
  exact ⟨v, ha⟩

/-! ### The accesses of the fetch -/

/-- A slot that POPULATED gives selects what the dispatch table says (30_encoding.md R80). -/
theorem slotOf_spec {p : Params} {op : Byte} {x : Slot} (h : slotOf p op = x) (hx : x ≠ .unpopulated) : x.Spec op := by
  unfold slotOf at h
  split at h
  · exact absurd h.symm hx
  · exact h ▸ slot_spec op

/-- The fetch makes the accesses that the length of the fetched instruction asks for (20_memory.md R57). -/
theorem fetchInstr_accesses (s : State) :
    (fetchInstr s).2 = { s with history := fetchAccesses s (encode (fetchInstr s).1).length ++ s.history } := by
  rw [fetchInstr_eq]
  cases hslot : slotOf s.params (busAnswer s s.pc) with
  | unpopulated => rfl
  | alone i =>
    obtain ⟨-, -, henc⟩ := slotOf_spec hslot nofun
    simp only [henc]
    rfl
  | withByte f =>
    have henc (n : Byte) : (encode (f n)).length = 2 := by
      obtain ⟨-, -, h⟩ := slotOf_spec hslot nofun n
      rw [h]
      rfl
    simp only [henc]
    rfl
  | withWord f =>
    have henc (nn : Word) : (encode (f nn)).length = 3 := by
      obtain ⟨-, -, h⟩ := slotOf_spec hslot nofun nn
      rw [h]
      rfl
    simp only [henc]
    rfl

/-! ### What flat RAM answers -/

/-- Under flat RAM a byte read after a byte write gives the byte written, and elsewhere what it gave before (20_memory.md R67). -/
theorem busAnswer_writeByte (s : State) (a b : Word) (v : Byte) (h : s.params.memModel = .flatRam)
    (hm : Memory.wf s.mem = true) : busAnswer (writeByte s a v) b = if b = a then v else busAnswer s b := by
  rw [busAnswer_flatRam (writeByte s a v) b h, busAnswer_flatRam s b h, writeByte_mem]
  split
  · next hb => rw [hb, read_write_same _ _ _ hm]
  · next hb => rw [read_write_other _ _ _ _ fun hn => hb (BitVec.eq_of_toNat_eq hn)]

/-- Under flat RAM the word at `a` has the byte at `a + 1` as its high byte and the byte at `a` as its low one (R53, R56). -/
theorem busAnswerWord_toNat (s : State) (a : Word) (h : s.params.memModel = .flatRam) :
    (busAnswerWord s a).toNat = 256 * (Memory.read s.mem (a + 1).toNat).toNat + (Memory.read s.mem a.toNat).toNat := by
  rw [busAnswerWord_flatRam s a h, wordOf_toNat, Nat.mul_comm]

/-- Settles O21, by what the bus answers under each memory model; each access records itself by definition. -/
theorem memoryAnswersByModel : Obligations.MemoryAnswersByModel := fun s a b v =>
  ⟨busAnswer_writeByte s a b v, busAnswerWord_toNat s a, busAnswer_oracle s a, rfl, rfl, rfl⟩

/-- Settles O52: memory after an instruction is memory before it, or that with the one store. -/
theorem memoryFrame : Obligations.MemoryFrame := by
  intro i s t h
  obtain ⟨v, ha⟩ := dataAccesses_of_exec h
  refine ⟨fun w hw a hne => ?_, fun hnone a => ?_⟩
  · rw [ha.mem, hw]
    exact read_write_other _ _ _ _ hne
  · rw [ha.mem, hnone]
    rfl

/-- Settles O54: the data accesses of the instruction, and those of the fetch before it. -/
theorem accessesInOrder : Obligations.AccessesInOrder :=
  ⟨fun _ _ _ h => (dataAccesses_of_exec h).imp fun _ ha => ha.history, fetchInstr_accesses⟩

end Sys2Proof.Machine

/-! ### Proofs: encoding and decoding -/

namespace Sys2Proof

/-! What the decoder answers, and what the encoder gives back, by the slot of the opcode (spec/30_encoding.md R76, R79). -/

section
variable {op : Byte} {i : Instr} {f : Byte → Instr} {g : Word → Instr}

theorem decode_of_unpopulated (h : slot op = .unpopulated) (rest : List Byte) :
    decode (op :: rest) = .ok (.undefined op, rest) := by
  simp [decode_cons, h]

theorem decode_of_alone (h : slot op = .alone i) (rest : List Byte) : decode (op :: rest) = .ok (i, rest) := by
  simp [decode_cons, h]

theorem decode_of_withByte (h : slot op = .withByte f) (n : Byte) (rest : List Byte) :
    decode (op :: n :: rest) = .ok (f n, rest) := by
  simp [decode_cons, h]

theorem decode_of_withWord (h : slot op = .withWord g) (lo hi : Byte) (rest : List Byte) :
    decode (op :: lo :: hi :: rest) = .ok (g (wordOf hi lo), rest) := by
  simp [decode_cons, h]

theorem slot_spec_of_eq {x : Slot} (h : slot op = x) : x.Spec op := h ▸ slot_spec op

theorem encode_of_alone (h : slot op = .alone i) : encode i = [op] := by
  obtain ⟨-, -, henc⟩ := slot_spec_of_eq h
  exact henc

theorem encode_of_withByte (h : slot op = .withByte f) (n : Byte) : encode (f n) = [op, n] := by
  obtain ⟨-, -, henc⟩ := slot_spec_of_eq h n
  exact henc

theorem encode_of_withWord (h : slot op = .withWord g) (nn : Word) : encode (g nn) = opWithWord op nn := by
  obtain ⟨-, -, henc⟩ := slot_spec_of_eq h nn
  exact henc

theorem length_encode_of_alone (h : slot op = .alone i) : (encode i).length = 1 := by
  simp [encode_of_alone h]

theorem length_encode_of_withByte (h : slot op = .withByte f) (n : Byte) : (encode (f n)).length = 2 := by
  simp [encode_of_withByte h]

theorem length_encode_of_withWord (h : slot op = .withWord g) (nn : Word) : (encode (g nn)).length = 3 := by
  simp [encode_of_withWord h, opWithWord]

theorem opcode_of_withByte (h : slot op = .withByte f) (n : Byte) : (f n).opcode = op := by
  simp [Instr.opcode, encode_of_withByte h]

theorem opcode_of_withWord (h : slot op = .withWord g) (nn : Word) : (g nn).opcode = op := by
  simp [Instr.opcode, encode_of_withWord h, opWithWord]

/-! An instruction that some slot selects survives the round trip. -/

theorem decode_encode_of_alone (h : slot op = .alone i) (rest : List Byte) : decode (encode i ++ rest) = .ok (i, rest) := by
  rw [encode_of_alone h]
  exact decode_of_alone h rest

theorem decode_encode_of_withByte (h : slot op = .withByte f) (n : Byte) (rest : List Byte) :
    decode (encode (f n) ++ rest) = .ok (f n, rest) := by
  rw [encode_of_withByte h]
  exact decode_of_withByte h n rest

theorem decode_encode_of_withWord (h : slot op = .withWord g) (nn : Word) (rest : List Byte) :
    decode (encode (g nn) ++ rest) = .ok (g nn, rest) := by
  rw [encode_of_withWord h]
  exact (decode_of_withWord h (loByte nn) (hiByte nn) rest).trans (by rw [wordOf_halves])

end

/-! The slot that each family's opcode selects, with the opcode number built from the fields (R71 to R75). -/

theorem slot_ld (dst src : Reg8) : slot (BitVec.ofNat 8 (0x40 + 8 * dst.index + src.index)) = .alone (Instr.ld dst src) := by
  cases dst <;> cases src <;> rfl
theorem slot_ldFromHL (r : Reg8) : slot (BitVec.ofNat 8 (0x40 + 8 * r.index + 6)) = .alone (Instr.ldFromHL r) := by
  cases r <;> rfl
theorem slot_ldToHL (r : Reg8) : slot (BitVec.ofNat 8 (0x70 + r.index)) = .alone (Instr.ldToHL r) := by cases r <;> rfl
theorem slot_ldImm (r : Reg8) : slot (BitVec.ofNat 8 (0x06 + 8 * r.index)) = .withByte (Instr.ldImm r) := by cases r <;> rfl
theorem slot_inc (r : Reg8) : slot (BitVec.ofNat 8 (0x04 + 8 * r.index)) = .alone (Instr.inc r) := by cases r <;> rfl
theorem slot_dec (r : Reg8) : slot (BitVec.ofNat 8 (0x05 + 8 * r.index)) = .alone (Instr.dec r) := by cases r <;> rfl
theorem slot_ldPair (p : Pair) : slot (BitVec.ofNat 8 (0x01 + 16 * p.field.toNat)) = .withWord (Instr.ldPair p) := by
  cases p <;> rfl
theorem slot_incPair (p : Pair) : slot (BitVec.ofNat 8 (0x03 + 16 * p.field.toNat)) = .alone (Instr.incPair p) := by
  cases p <;> rfl
theorem slot_decPair (p : Pair) : slot (BitVec.ofNat 8 (0x0B + 16 * p.field.toNat)) = .alone (Instr.decPair p) := by
  cases p <;> rfl
theorem slot_addHL (p : Pair) : slot (BitVec.ofNat 8 (0x09 + 16 * p.field.toNat)) = .alone (Instr.addHL p) := by
  cases p <;> rfl
theorem slot_alu (op : AluOp) (r : Reg8) :
    slot (BitVec.ofNat 8 (0x80 + 8 * op.field.toNat + r.index)) = .alone (Instr.alu op r) := by
  cases op <;> cases r <;> rfl
theorem slot_aluAtHL (op : AluOp) : slot (BitVec.ofNat 8 (0x86 + 8 * op.field.toNat)) = .alone (Instr.aluAtHL op) := by
  cases op <;> rfl
theorem slot_aluImm (op : AluOp) : slot (BitVec.ofNat 8 (0xC6 + 8 * op.field.toNat)) = .withByte (Instr.aluImm op) := by
  cases op <;> rfl
theorem slot_jr (cc : Cond) : slot (BitVec.ofNat 8 (0x20 + 8 * cc.field.toNat)) = .withByte (Instr.jr cc) := by
  cases cc <;> rfl

/-- Settles O1: some slot selects each well-formed instruction, and its specification ties it to the encoder. -/
theorem decodeEncodeRoundTrip : Obligations.DecodeEncodeRoundTrip := by
  intro i rest hwf
  induction i using Instr.byFamily with
  | ld dst src => exact decode_encode_of_alone (slot_ld dst src) rest
  | ldFromHL r => exact decode_encode_of_alone (slot_ldFromHL r) rest
  | ldToHL r => exact decode_encode_of_alone (slot_ldToHL r) rest
  | ldImm r n => exact decode_encode_of_withByte (slot_ldImm r) n rest
  | ldPair p nn => exact decode_encode_of_withWord (slot_ldPair p) nn rest
  | inc r => exact decode_encode_of_alone (slot_inc r) rest
  | dec r => exact decode_encode_of_alone (slot_dec r) rest
  | incPair p => exact decode_encode_of_alone (slot_incPair p) rest
  | decPair p => exact decode_encode_of_alone (slot_decPair p) rest
  | alu op r => exact decode_encode_of_alone (slot_alu op r) rest
  | aluAtHL op => exact decode_encode_of_alone (slot_aluAtHL op) rest
  | aluImm op n => exact decode_encode_of_withByte (slot_aluImm op) n rest
  | addHL p => exact decode_encode_of_alone (slot_addHL p) rest
  | jr cc e => exact decode_encode_of_withByte (slot_jr cc) e rest
  | undefined op => exact decode_of_unpopulated (slot_of_mem_undefined op (List.contains_iff_mem.1 hwf)) rest
  | nop => exact decode_encode_of_alone (op := 0x00) rfl rest
  | di => exact decode_encode_of_alone (op := 0xF3) rfl rest
  | ei => exact decode_encode_of_alone (op := 0xFB) rfl rest
  | inc_at_hl => exact decode_encode_of_alone (op := 0x34) rfl rest
  | dec_at_hl => exact decode_encode_of_alone (op := 0x35) rfl rest
  | ld_at_bc_a => exact decode_encode_of_alone (op := 0x02) rfl rest
  | ld_at_de_a => exact decode_encode_of_alone (op := 0x12) rfl rest
  | ld_at_hli_a => exact decode_encode_of_alone (op := 0x22) rfl rest
  | ld_at_hld_a => exact decode_encode_of_alone (op := 0x32) rfl rest
  | ld_a_at_bc => exact decode_encode_of_alone (op := 0x0A) rfl rest
  | ld_a_at_de => exact decode_encode_of_alone (op := 0x1A) rfl rest
  | ld_a_at_hli => exact decode_encode_of_alone (op := 0x2A) rfl rest
  | ld_a_at_hld => exact decode_encode_of_alone (op := 0x3A) rfl rest
  | jr_e e => exact decode_encode_of_withByte (op := 0x18) rfl e rest
  | ld_at_hl_n n => exact decode_encode_of_withByte (op := 0x36) rfl n rest
  | ldh_at_n_a n => exact decode_encode_of_withByte (op := 0xE0) rfl n rest
  | ldh_a_at_n n => exact decode_encode_of_withByte (op := 0xF0) rfl n rest
  | jp_nn nn => exact decode_encode_of_withWord (op := 0xC3) rfl nn rest
  | ld_at_nn_a nn => exact decode_encode_of_withWord (op := 0xEA) rfl nn rest
  | ld_a_at_nn nn => exact decode_encode_of_withWord (op := 0xFA) rfl nn rest

/-- What the decoder answers is well-formed, is encoded by the bytes it consumed, and has the length that the opcode says. -/
theorem decode_spec {op : Byte} {bs rest : List Byte} {i : Instr} (h : decode (op :: bs) = .ok (i, rest)) :
    i.wellFormed = true ∧ encode i ++ rest = op :: bs ∧ (encode i).length = lengthOf op := by
  unfold lengthOf
  cases hslot : slot op with
  | unpopulated =>
    cases (decode_of_unpopulated hslot bs).symm.trans h
    exact ⟨List.contains_iff_mem.2 (slot_spec_of_eq hslot), rfl, rfl⟩
  | alone i =>
    obtain ⟨hwf, -, henc⟩ := slot_spec_of_eq hslot
    cases (decode_of_alone hslot bs).symm.trans h
    exact ⟨hwf, by simp [henc], length_encode_of_alone hslot⟩
  | withByte f =>
    match bs with
    | [] => simp [decode_cons, hslot] at h
    | n :: bs =>
      obtain ⟨hwf, -, henc⟩ := slot_spec_of_eq hslot n
      cases (decode_of_withByte hslot n bs).symm.trans h
      exact ⟨hwf, by simp [henc], length_encode_of_withByte hslot n⟩
  | withWord f =>
    match bs with
    | [] | [_] => simp [decode_cons, hslot] at h
    | lo :: hi :: bs =>
      obtain ⟨hwf, -, henc⟩ := slot_spec_of_eq hslot (wordOf hi lo)
      cases (decode_of_withWord hslot lo hi bs).symm.trans h
      exact ⟨hwf, by simp [henc, opWithWord], length_encode_of_withWord hslot _⟩

/-- Settles O2: no bytes decode where there is no opcode, and otherwise the slots meet their specification. -/
theorem decodedBytesEncodeBack : Obligations.DecodedBytesEncodeBack := by
  intro bs i rest h
  cases bs with
  | nil => cases h
  | cons op bs =>
    obtain ⟨hwf, hbytes, -⟩ := decode_spec h
    exact ⟨hwf, hbytes⟩

/-- Settles O3: `undefined op` is well-formed for a listed opcode only, and a listed opcode's slot is unpopulated. -/
theorem undefinedSlotsAreExactlyTheListed : Obligations.UndefinedSlotsAreExactlyTheListed := by
  refine ⟨by decide, rfl, by decide, by decide, fun op rest => ⟨fun h => ?_, fun h => ?_⟩⟩
  · obtain ⟨hwf, -, -⟩ := decode_spec h
    exact List.contains_iff_mem.1 hwf
  · exact decode_of_unpopulated (slot_of_mem_undefined op h) rest

theorem lengthOf_bounds (op : Byte) : 1 ≤ lengthOf op ∧ lengthOf op ≤ 3 := by
  unfold lengthOf
  cases slot op <;> simp

/-- Decoding fails exactly where operand bytes are missing (R84). -/
theorem decode_error_iff (op : Byte) (rest : List Byte) :
    (∃ err, decode (op :: rest) = .error err) ↔ rest.length + 1 < lengthOf op := by
  unfold lengthOf
  cases hslot : slot op with
  | unpopulated => simp [decode_cons, hslot]
  | alone i => simp [decode_cons, hslot]
  | withByte f => cases rest <;> simp [decode_cons, hslot]
  | withWord f =>
    match rest with
    | [] | [_] | _ :: _ :: _ => simp [decode_cons, hslot]

/-- Settles O4: the bytes consumed are the encoding, whose length the slot fixes. -/
theorem lengthFollowsOpcode : Obligations.LengthFollowsOpcode := by
  intro op rest
  obtain ⟨hlow, hhigh⟩ := lengthOf_bounds op
  refine ⟨hlow, hhigh, decode_error_iff op rest, fun i rest' h => ?_⟩
  obtain ⟨-, hbytes, hlen⟩ := decode_spec h
  have hsum := congrArg List.length hbytes
  rw [List.length_append, List.length_cons, hlen] at hsum
  exact ⟨hlen, by omega⟩

/-- Settles O6: each family's opcode selects its slot; the few single opcodes compute. -/
theorem opcodeFieldsSelectOperands : Obligations.OpcodeFieldsSelectOperands := by
  refine ⟨fun dst src => decode_of_alone (slot_ld dst src) [], fun r => ?_, rfl, rfl, fun _ => rfl, ?_, fun p => ?_,
    fun op => ?_, fun cc e => decode_of_withByte (slot_jr cc) e [], rfl⟩
  · exact ⟨decode_of_alone (slot_ldFromHL r) [], decode_of_alone (slot_ldToHL r) [], decode_of_alone (slot_inc r) [],
      decode_of_alone (slot_dec r) [], fun n => decode_of_withByte (slot_ldImm r) n []⟩
  · rintro x hx
    fin_cases hx <;> exact ⟨rfl, rfl⟩
  · exact ⟨decode_of_alone (slot_incPair p) [], decode_of_alone (slot_decPair p) [], decode_of_alone (slot_addHL p) [],
      fun lo hi => decode_of_withWord (slot_ldPair p) lo hi []⟩
  · exact ⟨fun r => decode_of_alone (slot_alu op r) [], decode_of_alone (slot_aluAtHL op) [],
      fun n => decode_of_withByte (slot_aluImm op) n []⟩

/-- Settles O5: each word computes. -/
theorem wordsWrittenFromTheSpecDecode : Obligations.WordsWrittenFromTheSpecDecode :=
  ⟨rfl, rfl, rfl, rfl, rfl, rfl, rfl, rfl, rfl, rfl, rfl, rfl, rfl, rfl, rfl, rfl⟩

end Sys2Proof

/-! ### Proofs: the default costs and the lengths -/

namespace Sys2Proof.Machine

/-! The default cost of each family's opcode (spec/70_reset_and_hazards.md R290). -/

theorem defaultCycles_ld (dst src : Reg8) : defaultCycles (Instr.ld dst src).opcode = 1 := by
  cases dst <;> cases src <;> rfl
theorem defaultCycles_ldFromHL (r : Reg8) : defaultCycles (Instr.ldFromHL r).opcode = 2 := by cases r <;> rfl
theorem defaultCycles_ldToHL (r : Reg8) : defaultCycles (Instr.ldToHL r).opcode = 2 := by cases r <;> rfl
theorem defaultCycles_ldImm (r : Reg8) (n : Byte) : defaultCycles (Instr.ldImm r n).opcode = 2 := by
  rw [opcode_of_withByte (slot_ldImm r)]
  cases r <;> rfl
theorem defaultCycles_inc (r : Reg8) : defaultCycles (Instr.inc r).opcode = 1 := by cases r <;> rfl
theorem defaultCycles_dec (r : Reg8) : defaultCycles (Instr.dec r).opcode = 1 := by cases r <;> rfl
theorem defaultCycles_ldPair (p : Pair) (nn : Word) : defaultCycles (Instr.ldPair p nn).opcode = 3 := by
  rw [opcode_of_withWord (slot_ldPair p)]
  cases p <;> rfl
theorem defaultCycles_incPair (p : Pair) : defaultCycles (Instr.incPair p).opcode = 2 := by cases p <;> rfl
theorem defaultCycles_decPair (p : Pair) : defaultCycles (Instr.decPair p).opcode = 2 := by cases p <;> rfl
theorem defaultCycles_addHL (p : Pair) : defaultCycles (Instr.addHL p).opcode = 2 := by cases p <;> rfl
theorem defaultCycles_alu (op : AluOp) (r : Reg8) : defaultCycles (Instr.alu op r).opcode = 1 := by
  cases op <;> cases r <;> rfl
theorem defaultCycles_aluAtHL (op : AluOp) : defaultCycles (Instr.aluAtHL op).opcode = 2 := by cases op <;> rfl
theorem defaultCycles_aluImm (op : AluOp) (n : Byte) : defaultCycles (Instr.aluImm op n).opcode = 2 := by
  rw [opcode_of_withByte (slot_aluImm op)]
  cases op <;> rfl

/-- JR cc,e costs 3 where its condition holds and 2 where it does not, whatever the parameters (43_jumps.md R192). -/
theorem nominalCost_jr (cc : Cond) (e : Byte) (s : State) :
    nominalCost (Instr.jr cc e) s = if condHolds cc s.f then 3 else 2 := by cases cc <;> rfl

/-- Settles O56: a family's length is that of its slot; its cost stands in the table. -/
theorem defaultCostsAndLengths : Obligations.DefaultCostsAndLengths := by
  refine ⟨fun _ => rfl, fun dst src => ⟨length_encode_of_alone (slot_ld dst src), defaultCycles_ld dst src⟩,
    fun r n => ?_, fun p nn => ?_, fun op r n => ?_, fun cc e n nn s => ?_, rfl, rfl, ?_⟩
  · exact ⟨length_encode_of_alone (slot_ldFromHL r), defaultCycles_ldFromHL r,
      length_encode_of_alone (slot_ldToHL r), defaultCycles_ldToHL r,
      length_encode_of_withByte (slot_ldImm r) n, defaultCycles_ldImm r n,
      length_encode_of_alone (slot_inc r), defaultCycles_inc r, length_encode_of_alone (slot_dec r), defaultCycles_dec r⟩
  · exact ⟨length_encode_of_withWord (slot_ldPair p) nn, defaultCycles_ldPair p nn,
      length_encode_of_alone (slot_incPair p), defaultCycles_incPair p,
      length_encode_of_alone (slot_decPair p), defaultCycles_decPair p,
      length_encode_of_alone (slot_addHL p), defaultCycles_addHL p⟩
  · exact ⟨length_encode_of_alone (slot_alu op r), defaultCycles_alu op r,
      length_encode_of_alone (slot_aluAtHL op), defaultCycles_aluAtHL op,
      length_encode_of_withByte (slot_aluImm op) n, defaultCycles_aluImm op n⟩
  · exact ⟨length_encode_of_withByte (slot_jr cc) e, nominalCost_jr cc e s,
      rfl, show defaultCycles 0x18 = 3 from rfl, rfl, show defaultCycles 0xC3 = 4 from rfl,
      rfl, show defaultCycles 0x36 = 3 from rfl, rfl, show defaultCycles 0xE0 = 3 from rfl,
      rfl, show defaultCycles 0xF0 = 3 from rfl, rfl, show defaultCycles 0xEA = 4 from rfl,
      rfl, show defaultCycles 0xFA = 4 from rfl⟩
  · rintro i hi
    fin_cases hi <;> exact ⟨rfl, rfl⟩

end Sys2Proof.Machine

/-! ### Proofs: register loads -/

namespace Sys2Proof.Machine

/-- Ending the instruction `i` with its own opcode answers the state past `i` (spec/00_scope.md R15). -/
theorem advance_opcode (i : Instr) (len : Nat) (s : State) : advance i.opcode len s = .next (s.past i len) := rfl

theorem encode_ld (dst src : Reg8) : encode (Instr.ld dst src) = [fRR dst.field src.field] := by
  cases dst <;> cases src <;> rfl

/-! The next state of each register load (40_register_loads.md R101 to R106): that of its meaning, past the instruction. -/

theorem exec_ld_next (dst src : Reg8) (s : State) :
    exec (Instr.ld dst src) s = .next ((s.setReg dst (s.reg src)).past (Instr.ld dst src) 1) := by
  rw [exec_ld, moveReg_eq, advance_opcode]

theorem exec_ldFromHL_next (r : Reg8) (s : State) :
    exec (Instr.ldFromHL r) s =
      .next (((readByte s s.hl).2.setReg r (readByte s s.hl).1).past (Instr.ldFromHL r) 1) := by
  rw [exec_ldFromHL, loadRegFromHL_eq, advance_opcode, readByte]

theorem exec_ldToHL_next (r : Reg8) (s : State) :
    exec (Instr.ldToHL r) s = .next ((writeByte s s.hl (s.reg r)).past (Instr.ldToHL r) 1) := by
  rw [exec_ldToHL, storeRegToHL_eq, advance_opcode]

theorem exec_ld_at_hl_n_next (n : Byte) (s : State) :
    exec (.ld_at_hl_n n) s = .next ((writeByte s s.hl n).past (.ld_at_hl_n n) 2) :=
  advance_opcode (.ld_at_hl_n n) 2 (writeByte s s.hl n)

theorem exec_ldImm_next (r : Reg8) (n : Byte) (s : State) :
    exec (Instr.ldImm r n) s = .next ((s.setReg r n).past (Instr.ldImm r n) 2) := by
  rw [exec_ldImm, loadRegImm_eq, advance_opcode]

theorem exec_ldPair_next (p : Pair) (nn : Word) (s : State) :
    exec (Instr.ldPair p nn) s = .next ((s.setPair p nn).past (Instr.ldPair p nn) 3) := by
  rw [exec_ldPair, loadPairImm_eq, advance_opcode]

/-- Settles O22: the encoding, cost and next state of LD r,r'; a register written with its own value leaves the state alone. -/
theorem moveCopiesRegister : Obligations.MoveCopiesRegister := by
  refine fun dst src s => ⟨encode_ld dst src, defaultCycles_ld dst src, exec_ld_next dst src s, ?_⟩
  rintro rfl
  rw [exec_ld_next, setReg_reg]

/-- Settles O23: the next states of the three (HL) forms. -/
theorem loadAndStoreThroughHL : Obligations.LoadAndStoreThroughHL := fun r n s =>
  ⟨exec_ldFromHL_next r s, exec_ldToHL_next r s, exec_ld_at_hl_n_next n s⟩

/-- Settles O24: the next states of the two immediate forms. -/
theorem loadImmediates : Obligations.LoadImmediates := fun r p n nn s =>
  ⟨exec_ldImm_next r n s, exec_ldPair_next p nn s⟩

end Sys2Proof.Machine

/-! ### Proofs: increment and decrement -/

namespace Sys2Proof.Machine

/-! The flags of the classes INC and DEC, read off the operand instead of the result (42_alu.md R150, R151). -/

theorem lowNibble_lt (v : Byte) : lowNibble v < 16 := Nat.mod_lt _ (by decide)

theorem flagINC_eq (v : Byte) (cy : Bool) :
    flagINC v cy = (v + 1, { z := v == 0xFF, n := false, h := lowNibble v == 0xF, c := cy }) := by
  have hres : BitVec.ofNat 8 (v.toNat + 1) = v + 1 := BitVec.eq_of_toNat_eq (by simp)
  have hz : (v + 1 == 0) = (v == 0xFF) := Bool.eq_iff_iff.2 (by simp only [beq_iff_eq]; bv_omega)
  have hh : decide (lowNibble v + 1 > 0xF) = (lowNibble v == 0xF) :=
    Bool.eq_iff_iff.2 (by have := lowNibble_lt v; simp only [decide_eq_true_eq, beq_iff_eq]; omega)
  simp only [flagINC, hres, hz, hh]

theorem flagDEC_eq (v : Byte) (cy : Bool) :
    flagDEC v cy = (v - 1, { z := v == 0x01, n := true, h := lowNibble v == 0x0, c := cy }) := by
  have hz : (v - 1 == 0) = (v == 0x01) := Bool.eq_iff_iff.2 (by simp only [beq_iff_eq]; bv_omega)
  have hh : decide (lowNibble v < 1) = (lowNibble v == 0x0) :=
    Bool.eq_iff_iff.2 (by simp only [decide_eq_true_eq, beq_iff_eq]; omega)
  simp only [flagDEC, hz, hh]

theorem encode_dec (r : Reg8) : encode (Instr.dec r) = [fR r.field 1] := by cases r <;> rfl

theorem encode_incPair (p : Pair) : encode (Instr.incPair p) = [fP p.field 0] := by cases p <;> rfl

theorem encode_decPair (p : Pair) : encode (Instr.decPair p) = [fP p.field 1] := by cases p <;> rfl

/-! The next state of each form (41_inc_dec.md R121 to R126): that of its meaning, past the instruction. -/

theorem exec_inc_next (r : Reg8) (s : State) :
    exec (Instr.inc r) s = .next (State.past
      { s.setReg r (flagINC (s.reg r) (flagC s.f)).1 with f := packFlags (flagINC (s.reg r) (flagC s.f)).2 }
      (Instr.inc r) 1) := by
  rw [exec_inc, incReg_eq, advance_opcode]

theorem exec_dec_next (r : Reg8) (s : State) :
    exec (Instr.dec r) s = .next (State.past
      { s.setReg r (flagDEC (s.reg r) (flagC s.f)).1 with f := packFlags (flagDEC (s.reg r) (flagC s.f)).2 }
      (Instr.dec r) 1) := by
  rw [exec_dec, decReg_eq, advance_opcode]

theorem exec_inc_at_hl_next (s : State) :
    exec .inc_at_hl s = .next (State.past
      { writeByte (readByte s s.hl).2 s.hl (flagINC (readByte s s.hl).1 (flagC s.f)).1 with
        f := packFlags (flagINC (readByte s s.hl).1 (flagC s.f)).2 }
      .inc_at_hl 1) :=
  advance_opcode .inc_at_hl 1 _

theorem exec_dec_at_hl_next (s : State) :
    exec .dec_at_hl s = .next (State.past
      { writeByte (readByte s s.hl).2 s.hl (flagDEC (readByte s s.hl).1 (flagC s.f)).1 with
        f := packFlags (flagDEC (readByte s s.hl).1 (flagC s.f)).2 }
      .dec_at_hl 1) :=
  advance_opcode .dec_at_hl 1 _

theorem exec_incPair_next (p : Pair) (s : State) :
    exec (Instr.incPair p) s = .next ((s.setPair p (s.pair p + 1)).past (Instr.incPair p) 1) := by
  rw [exec_incPair, incPairBy1_eq, advance_opcode]

theorem exec_decPair_next (p : Pair) (s : State) :
    exec (Instr.decPair p) s = .next ((s.setPair p (s.pair p - 1)).past (Instr.decPair p) 1) := by
  rw [exec_decPair, decPairBy1_eq, advance_opcode]

/-- Settles O25: the next state of INC r, with the class INC's flags read off the operand. -/
theorem incrementRegister : Obligations.IncrementRegister := by
  intro r s
  rw [exec_inc_next, flagINC_eq]

/-- Settles O26: the encoding, cost and next state of DEC r, with the class DEC's flags read off the operand. -/
theorem decrementRegister : Obligations.DecrementRegister := by
  refine fun r s => ⟨encode_dec r, defaultCycles_dec r, ?_⟩
  rw [exec_dec_next, flagDEC_eq]

/-- Settles O27: the next states of the two (HL) forms, with the flags read off the byte read. -/
theorem incDecByteAtHL : Obligations.IncDecByteAtHL := by
  refine fun s => ⟨?_, ?_⟩
  · rw [exec_inc_at_hl_next, flagINC_eq]
  · rw [exec_dec_at_hl_next, flagDEC_eq]

/-- Settles O28: the encodings, costs and next states of the pair forms; the new pair's value is taken mod 2^16. -/
theorem incDecPairs : Obligations.IncDecPairs := by
  refine fun p s => ⟨encode_incPair p, encode_decPair p, defaultCycles_incPair p, defaultCycles_decPair p,
    ⟨s.pair p + 1, ?_, exec_incPair_next p s⟩, ⟨s.pair p - 1, ?_, exec_decPair_next p s⟩⟩
  · simp [BitVec.toNat_add]
  · simp [BitVec.toNat_sub, Nat.add_comm]

end Sys2Proof.Machine

/-! ### Proofs: the 8-bit ALU and the 16-bit add -/

namespace Sys2Proof.Machine

/-! Carries and borrows as numbers. -/

/-- The carry out of a sum of two digits of base `m + 1` and a carry-in is the sum's quotient. -/
theorem toNat_decide_gt_eq_div {t m : Nat} (ht : t < 2 * (m + 1)) : (decide (t > m)).toNat = t / (m + 1) := by
  by_cases h : t > m
  · rw [decide_eq_true h, Nat.div_eq_of_lt_le (k := 1) (by omega) (by omega), Bool.toNat_true]
  · rw [decide_eq_false h, Nat.div_eq_of_lt (by omega), Bool.toNat_false]

/-- A flag that is suppressed in a case in which it is set differs from the flag itself in that case only. -/
theorem ne_and_not_iff {c : Bool} {q : Prop} [Decidable q] (h : q → c = true) : c ≠ (c && !decide q) ↔ q := by
  by_cases hq : q
  · simp [hq, h hq]
  · simp [hq]

section
variable (mode : CarryMode) (a b : Byte) (cin : Bool)

/-! ADD and ADC (42_alu.md R142, R143). -/

/-- ADD is ADC without a carry-in. -/
theorem flagADD_eq_flagADC : flagADD a b = flagADC .exact a b false := rfl

theorem flagADC_result : (flagADC mode a b cin).1.toNat = (a.toNat + b.toNat + cin.toNat) % 256 :=
  BitVec.toNat_ofNat _ 8

theorem flagADC_z : (flagADC mode a b cin).2.z = true ↔ (flagADC mode a b cin).1 = 0 := beq_iff_eq

theorem flagADC_exact_c : (flagADC .exact a b cin).2.c = true ↔ a.toNat + b.toNat + cin.toNat > 0xFF := decide_eq_true_iff

theorem flagADC_wrapped_c :
    (flagADC .wrappedCompare a b cin).2.c = true ↔ (flagADC .wrappedCompare a b cin).1.toNat < a.toNat :=
  decide_eq_true_iff

theorem flagADC_exact_sum :
    (flagADC .exact a b cin).1.toNat + 256 * (flagADC .exact a b cin).2.c.toNat = a.toNat + b.toNat + cin.toNat := by
  have hcarry : (flagADC .exact a b cin).2.c.toNat = (a.toNat + b.toNat + cin.toNat) / 256 :=
    toNat_decide_gt_eq_div (m := 0xFF) (by have := cin.toNat_le; omega)
  rw [flagADC_result, hcarry, Nat.mod_add_div]

theorem flagADC_h : (flagADC mode a b cin).2.h.toNat = (a.toNat % 16 + b.toNat % 16 + cin.toNat) / 16 :=
  toNat_decide_gt_eq_div (m := 0xF) (by
    have := lowNibble_lt a
    have := lowNibble_lt b
    have := cin.toNat_le
    omega)

/-! SUB, CP and SBC (R144, R145, R149). -/

theorem flagSUB_result : (flagSUB a b).1.toNat = (a.toNat + 256 - b.toNat) % 256 := by
  have hsub : (flagSUB a b).1.toNat = (256 - b.toNat + a.toNat) % 256 := BitVec.toNat_sub a b
  rw [hsub]
  congr 1
  omega

theorem flagSUB_z : (flagSUB a b).2.z = true ↔ (flagSUB a b).1 = 0 := beq_iff_eq

theorem flagSUB_c : (flagSUB a b).2.c = true ↔ a.toNat < b.toNat := decide_eq_true_iff

theorem flagSUB_h : (flagSUB a b).2.h = true ↔ a.toNat % 16 < b.toNat % 16 := decide_eq_true_iff

/-- A difference wraps above its minuend exactly where it borrows. -/
theorem flagSUB_result_gt_iff : (flagSUB a b).1.toNat > a.toNat ↔ a.toNat < b.toNat := by
  rw [flagSUB_result]
  omega

theorem flagSUB_result_eq_zero_iff : (flagSUB a b).1 = 0 ↔ a = b := sub_eq_zero

theorem flagSBC_result : (flagSBC mode a b cin).1.toNat = (a.toNat + 512 - b.toNat - cin.toNat) % 256 := by
  have hres : (flagSBC mode a b cin).1 = a - b - BitVec.ofNat 8 cin.toNat := rfl
  have := cin.toNat_le
  rw [hres]
  simp only [BitVec.toNat_sub, BitVec.toNat_ofNat]
  omega

theorem flagSBC_z : (flagSBC mode a b cin).2.z = true ↔ (flagSBC mode a b cin).1 = 0 := beq_iff_eq

theorem flagSBC_h : (flagSBC mode a b cin).2.h = true ↔ a.toNat % 16 < b.toNat % 16 + cin.toNat := decide_eq_true_iff

theorem flagSBC_exact_c : (flagSBC .exact a b cin).2.c = true ↔ a.toNat < b.toNat + cin.toNat := decide_eq_true_iff

theorem flagSBC_wrapped_c :
    (flagSBC .wrappedCompare a b cin).2.c = true ↔ (flagSBC .wrappedCompare a b cin).1.toNat > a.toNat :=
  decide_eq_true_iff

theorem flagSBC_exact_difference :
    (flagSBC .exact a b cin).1.toNat + b.toNat + cin.toNat = a.toNat + 256 * (flagSBC .exact a b cin).2.c.toNat := by
  have := cin.toNat_le
  by_cases h : a.toNat < b.toNat + cin.toNat
  · rw [flagSBC_result, (flagSBC_exact_c a b cin).2 h, Bool.toNat_true]
    omega
  · rw [flagSBC_result, Bool.eq_false_iff.2 (mt (flagSBC_exact_c a b cin).1 h), Bool.toNat_false]
    omega

/-! The two carry modes (R153): comparing the wrapped result with A misses the carry of a full turn, `b + cin = 256`. -/

/-- The operand and the carry-in of a full turn. -/
theorem full_turn_iff : b = 0xFF ∧ cin = true ↔ b.toNat + cin.toNat = 256 := by
  have hb : b = 0xFF ↔ b.toNat = 0xFF := BitVec.toNat_inj.symm
  have := cin.toNat_le
  rw [hb, ← Bool.toNat_eq_one]
  omega

theorem flagADC_wrapped_c_eq :
    (flagADC .wrappedCompare a b cin).2.c = ((flagADC .exact a b cin).2.c && !decide (b = 0xFF ∧ cin = true)) := by
  have := cin.toNat_le
  rw [Bool.eq_iff_iff, Bool.and_eq_true, Bool.not_eq_true', decide_eq_false_iff_not, full_turn_iff, flagADC_exact_c,
    flagADC_wrapped_c, flagADC_result]
  omega

theorem flagSBC_wrapped_c_eq :
    (flagSBC .wrappedCompare a b cin).2.c = ((flagSBC .exact a b cin).2.c && !decide (b = 0xFF ∧ cin = true)) := by
  have := cin.toNat_le
  rw [Bool.eq_iff_iff, Bool.and_eq_true, Bool.not_eq_true', decide_eq_false_iff_not, full_turn_iff, flagSBC_exact_c,
    flagSBC_wrapped_c, flagSBC_result]
  omega

theorem flagADC_of_full_turn (h : b = 0xFF ∧ cin = true) :
    (flagADC .exact a b cin).2.c = true ∧ (flagADC mode a b cin).1 = a := by
  rw [full_turn_iff] at h
  exact ⟨(flagADC_exact_c a b cin).2 (by omega), BitVec.eq_of_toNat_eq (by rw [flagADC_result]; omega)⟩

theorem flagSBC_of_full_turn (h : b = 0xFF ∧ cin = true) :
    (flagSBC .exact a b cin).2.c = true ∧ (flagSBC mode a b cin).1 = a := by
  rw [full_turn_iff] at h
  exact ⟨(flagSBC_exact_c a b cin).2 (by omega), BitVec.eq_of_toNat_eq (by rw [flagSBC_result]; omega)⟩

end

/-! The 16-bit add (R152). -/

section
variable (policy : Add16Z) (a b : Word) (oldZ : Bool)

theorem flagADD16_exact_sum :
    (flagADD16 policy a b oldZ).1.toNat + 0x10000 * (flagADD16 policy a b oldZ).2.c.toNat = a.toNat + b.toNat := by
  have hres : (flagADD16 policy a b oldZ).1.toNat = (a.toNat + b.toNat) % 0x10000 := BitVec.toNat_ofNat _ 16
  have hcarry : (flagADD16 policy a b oldZ).2.c.toNat = (a.toNat + b.toNat) / 0x10000 :=
    toNat_decide_gt_eq_div (m := 0xFFFF) (by omega)
  rw [hres, hcarry, Nat.mod_add_div]

theorem flagADD16_h :
    (flagADD16 policy a b oldZ).2.h.toNat = (a.toNat % 0x1000 + b.toNat % 0x1000) / 0x1000 :=
  toNat_decide_gt_eq_div (m := 0xFFF) (by omega)

theorem flagADD16_fromResult_z :
    (flagADD16 .fromResult a b oldZ).2.z = true ↔ (flagADD16 .fromResult a b oldZ).1 = 0 := beq_iff_eq

end

/-! The next state of each ALU form (42_alu.md R140, R160 to R184): that of its meaning, past the instruction. -/

theorem exec_alu_next (op : AluOp) (r : Reg8) (s : State) :
    exec (Instr.alu op r) s = .next ((aluWrite op (s.reg r) s).past (Instr.alu op r) 1) := by
  rw [exec_alu, aluReg_eq, advance_opcode]

theorem exec_aluAtHL_next (op : AluOp) (s : State) :
    exec (Instr.aluAtHL op) s =
      .next ((aluWrite op (readByte s s.hl).1 (readByte s s.hl).2).past (Instr.aluAtHL op) 1) := by
  rw [exec_aluAtHL, aluAtHL_eq, advance_opcode, readByte]

theorem exec_aluImm_next (op : AluOp) (n : Byte) (s : State) :
    exec (Instr.aluImm op n) s = .next ((aluWrite op n s).past (Instr.aluImm op n) 2) := by
  rw [exec_aluImm, aluImm, advance_opcode]

theorem exec_addHL_next (p : Pair) (s : State) :
    exec (Instr.addHL p) s = .next (State.past
      { s.setPair .hl (flagADD16 s.params.add16Z s.hl (s.pair p) (flagZ s.f)).1 with
        f := packFlags (flagADD16 s.params.add16Z s.hl (s.pair p) (flagZ s.f)).2 }
      (Instr.addHL p) 1) := by
  rw [exec_addHL, addToHL_eq, advance_opcode]

/-- Settles O29: ADD's rules are those of ADC without a carry-in. -/
theorem addAndAdcClasses : Obligations.AddAndAdcClasses := by
  intro a b cin mode
  rw [flagADD_eq_flagADC]
  exact ⟨flagADC_exact_sum a b false, flagADC_h .exact a b false, flagADC_z .exact a b false, rfl,
    flagADC_exact_sum a b cin, flagADC_h mode a b cin, flagADC_z mode a b cin, rfl, flagADC_wrapped_c a b cin⟩

/-- Settles O30: SUB borrows exactly where its result wraps above A, CP's flags are SUB's, and CP writes F alone. -/
theorem subAndCompareClasses : Obligations.SubAndCompareClasses := by
  refine ⟨fun a b => ?_, fun _ _ => rfl⟩
  have hc := flagSUB_c a b
  exact ⟨flagSUB_result a b, flagSUB_z a b, rfl, flagSUB_h a b, hc, hc.trans (flagSUB_result_gt_iff a b).symm, rfl,
    (flagSUB_z a b).trans (flagSUB_result_eq_zero_iff a b), hc⟩

/-- Settles O31, by the value of the difference under both borrows. -/
theorem sbcClass : Obligations.SbcClass := fun a b cin mode =>
  ⟨flagSBC_exact_difference a b cin, flagSBC_h mode a b cin, flagSBC_z mode a b cin, rfl, flagSBC_wrapped_c a b cin⟩

/-- Settles O32: the wrapped comparison is the exact carry but for the full turn, where the exact carry is set. -/
theorem carryModesDifferOnlyAtFullOperand : Obligations.CarryModesDifferOnlyAtFullOperand := by
  intro a b cin
  refine ⟨rfl, rfl, rfl, rfl, ?_, ?_, ?_⟩
  · rw [flagADC_wrapped_c_eq, ne_and_not_iff fun h => (flagADC_of_full_turn .exact a b cin h).1]
  · rw [flagSBC_wrapped_c_eq, ne_and_not_iff fun h => (flagSBC_of_full_turn .exact a b cin h).1]
  · intro h
    obtain ⟨hadcC, hadcResult⟩ := flagADC_of_full_turn .exact a b cin h
    obtain ⟨hsbcC, hsbcResult⟩ := flagSBC_of_full_turn .exact a b cin h
    exact ⟨hadcC, hadcResult, hsbcC, hsbcResult⟩

/-- Settles O33: bit by bit for the results; the flags are those of the definitions. -/
theorem logicClasses : Obligations.LogicClasses := fun _ _ _ _ =>
  ⟨BitVec.getLsbD_and, BitVec.getLsbD_xor, BitVec.getLsbD_or, rfl, rfl, rfl⟩

/-- Settles O34: the exact sum, the carry out of bit 11, and Z by each policy. -/
theorem addSixteenClass : Obligations.AddSixteenClass := fun policy a b oldZ =>
  ⟨flagADD16_exact_sum policy a b oldZ, flagADD16_h policy a b oldZ, rfl, flagADD16_fromResult_z a b oldZ, rfl⟩

/-- Settles O35: the next state of the register forms, and the class of each operation by definition. -/
theorem aluRegisterForms : Obligations.AluRegisterForms := by
  refine ⟨fun op r s => ?_, fun _ _ _ _ => ⟨rfl, rfl, rfl, rfl, rfl, rfl, rfl, rfl⟩⟩
  rw [exec_alu_next, aluWrite_eq]

/-- Settles O36: the next state of the (HL) forms; the read changes the access history alone. -/
theorem aluByteAtHLForms : Obligations.AluByteAtHLForms := by
  intro op s
  rw [exec_aluAtHL_next, aluWrite_eq]
  rfl

/-- Settles O37: the next state of the immediate forms. -/
theorem aluImmediateForms : Obligations.AluImmediateForms := by
  intro op n s
  rw [exec_aluImm_next, aluWrite_eq]

/-- Settles O38: the next state of ADD HL,rr. -/
theorem addToHLPairs : Obligations.AddToHLPairs := exec_addHL_next

end Sys2Proof.Machine

/-! ### Proofs: jumps -/

namespace Sys2Proof.Machine

/-! The target of a relative jump (spec/43_jumps.md R191). -/

/-- The target is the address after the jump plus the signed displacement, as an integer reduced mod 2^16. -/
theorem relTarget_eq_ofInt (pc : Word) (e : Byte) : relTarget pc e = BitVec.ofInt 16 (pc.toNat + 2 + e.toInt) := by
  rw [BitVec.ofInt_add, BitVec.ofInt_add, BitVec.ofInt_natCast, BitVec.ofNat_toNat, BitVec.setWidth_eq]
  rfl

theorem relTarget_toNat (pc : Word) (e : Byte) :
    ((relTarget pc e).toNat : Int) = (pc.toNat + 2 + e.toInt) % 0x10000 := by
  rw [relTarget_eq_ofInt, BitVec.toNat_ofInt]
  exact Int.toNat_of_nonneg (Int.emod_nonneg _ (by decide))

/-- A zero displacement goes to the next instruction. -/
theorem relTarget_zero (pc : Word) : relTarget pc 0x00 = pc + 2 := BitVec.add_zero (pc + 2)

/-- The displacement -2 goes to the jump itself. -/
theorem relTarget_neg_two (pc : Word) : relTarget pc 0xFE = pc := add_neg_cancel_right pc 2

/-! The conditions on packed flags (R190). -/

section
variable (x : Flags)

theorem condHolds_nz_pack : condHolds .nz (packFlags x) = true ↔ x.z = false := by simp [condHolds]
theorem condHolds_z_pack : condHolds .z (packFlags x) = true ↔ x.z = true := by simp [condHolds]
theorem condHolds_nc_pack : condHolds .nc (packFlags x) = true ↔ x.c = false := by simp [condHolds]
theorem condHolds_c_pack : condHolds .c (packFlags x) = true ↔ x.c = true := by simp [condHolds]

end

/-! The next state of each jump (R191 to R193). -/

theorem exec_jr_e_next (e : Byte) (s : State) :
    exec (.jr_e e) s = .next { s with
      pc := relTarget s.pc e
      cyclesTotal := addCycles s.params s.cyclesTotal (cyclesOf s.params 0x18) } := rfl

theorem exec_jp_nn_next (nn : Word) (s : State) :
    exec (.jp_nn nn) s = .next { s with
      pc := nn
      cyclesTotal := addCycles s.params s.cyclesTotal (cyclesOf s.params 0xC3) } := rfl

theorem exec_jr_next (cc : Cond) (e : Byte) (s : State) :
    exec (Instr.jr cc e) s = .next { s with
      pc := if condHolds cc s.f then relTarget s.pc e else s.pc + 2
      cyclesTotal := addCycles s.params s.cyclesTotal (if condHolds cc s.f then 3 else 2) } := by
  rw [exec_jr, jumpIf_eq, finish_eq]
  rfl

/-! The fetch of an instruction with an operand word (spec/20_memory.md R57). -/

/-- An opcode that is not left out of POPULATED has its slot of the dispatch table (spec/30_encoding.md R80). -/
theorem slotOf_of_populated {p : Params} {op : Byte} (h : p.depopulated.contains op = false) : slotOf p op = slot op :=
  if_neg (Bool.eq_false_iff.1 h)

/-- The operand is the word at the address after the opcode's, read after the opcode. -/
theorem fetchInstr_of_withWord {s : State} {f : Word → Instr}
    (h : slotOf s.params (busAnswer s s.pc) = .withWord f) :
    (fetchInstr s).1 = f (busAnswerWord (s.record (.readByte s.pc (busAnswer s s.pc))) (s.pc + 1)) := by
  rw [fetchInstr_eq, h]

/-- In flat RAM the operand's bytes are those at the two addresses after the opcode's, low byte first (20_memory.md R53). -/
theorem fetchInstr_of_withWord_flatRam {s : State} {f : Word → Instr} (hm : s.params.memModel = .flatRam)
    (h : slotOf s.params (Memory.read s.mem s.pc.toNat) = .withWord f) :
    (fetchInstr s).1 = f (wordOf (Memory.read s.mem (s.pc + 2).toNat) (Memory.read s.mem (s.pc + 1).toNat)) := by
  rw [← busAnswer_flatRam s s.pc hm] at h
  rw [fetchInstr_of_withWord h, busAnswerWord_flatRam (s.record _) _ hm, BitVec.add_assoc]
  rfl

/-- Settles O39: the target is that of `relTarget`, as an integer and at the two displacements named. -/
theorem jumpRelative : Obligations.JumpRelative := by
  refine fun e s => ⟨rfl, rfl, relTarget s.pc e, exec_jr_e_next e s, relTarget_toNat s.pc e, ?_, ?_⟩
  · rintro rfl
    exact relTarget_zero s.pc
  · rintro rfl
    exact relTarget_neg_two s.pc

/-- Settles O40, by the condition: it selects the pc and the cost together. -/
theorem jumpConditional : Obligations.JumpConditional := by
  refine fun cc e s => ⟨relTarget s.pc e, relTarget_toNat s.pc e, ?_⟩
  rw [exec_jr_next]
  cases condHolds cc s.f with
  | true => rfl
  | false => rfl

/-- Settles O41: the branch reads F of the state at the start, and F is outside the frame of every jump. -/
theorem conditionsReadTheFlags : Obligations.ConditionsReadTheFlags := by
  refine ⟨fun x => ⟨condHolds_nz_pack x, condHolds_z_pack x, condHolds_nc_pack x, condHolds_c_pack x⟩,
    fun cc e s t h => ⟨(frame_of_exec h).f (writesFlags_jr cc e), ?_⟩, fun _ _ _ h => (frame_of_exec h).f rfl,
    fun _ _ _ h => (frame_of_exec h).f rfl⟩
  cases (exec_jr_next cc e s).symm.trans h
  rfl

/-- Settles O42: the next state of JP nn, with the operand that the fetch reads in flat RAM. -/
theorem jumpAbsolute : Obligations.JumpAbsolute := by
  refine ⟨fun nn s => ⟨rfl, rfl, exec_jp_nn_next nn s⟩, fun s hrun hf hm hpop hop => ?_⟩
  have hslot : slotOf s.params (Memory.read s.mem s.pc.toNat) = .withWord .jp_nn := by
    rw [hop]
    exact slotOf_of_populated hpop
  rw [step_of_running s hrun hf, fetchInstr_of_withWord_flatRam hm hslot, exec_jp_nn_next]
  exact ⟨_, rfl, rfl⟩

end Sys2Proof.Machine

/-! ### Proofs: memory loads and stores of the accumulator -/

namespace Sys2Proof.Machine

/-! The next state of each shared meaning (spec/44_memory_loads.md R210 to R221), run with the opcode of the instruction `i`: past
`i`. -/

theorem storeA_next (i : Instr) (len : Nat) (addr : Word) (s : State) :
    storeA i.opcode len addr s = .next ((writeByte s addr s.a).past i len) := advance_opcode i len _

theorem loadA_next (i : Instr) (len : Nat) (addr : Word) (s : State) :
    loadA i.opcode len addr s =
      .next (State.past { (readByte s addr).2 with a := (readByte s addr).1 } i len) := by
  rw [loadA_eq, advance_opcode, readByte]

theorem storeAThenHL_next (i : Instr) (next : Word) (s : State) :
    storeAThenHL i.opcode next s = .next (((writeByte s s.hl s.a).setPair .hl next).past i 1) := by
  rw [storeAThenHL_eq, advance_opcode]

theorem loadAThenHL_next (i : Instr) (next : Word) (s : State) :
    loadAThenHL i.opcode next s = .next
      ((State.setPair { (readByte s s.hl).2 with a := (readByte s s.hl).1 } .hl next).past i 1) := by
  rw [loadAThenHL_eq, advance_opcode, readByte]

/-- The high page ends at 0xFFFF, so its addresses do not wrap (R218). -/
theorem highPage_toNat (n : Byte) : (highPage n).toNat = 0xFF00 + n.toNat := by
  unfold highPage
  bv_omega

/-- Settles O43: the meanings `storeA` and `loadA` at the pair. -/
theorem accumulatorThroughPair : Obligations.AccumulatorThroughPair := fun s =>
  ⟨rfl, rfl, rfl, rfl, rfl, storeA_next .ld_at_bc_a 1 s.bc s, storeA_next .ld_at_de_a 1 s.de s,
    loadA_next .ld_a_at_bc 1 s.bc s, loadA_next .ld_a_at_de 1 s.de s⟩

/-- Settles O44: the access is at the old HL, and HL is written after it. -/
theorem accumulatorThroughHLPlusMinus : Obligations.AccumulatorThroughHLPlusMinus := fun s =>
  ⟨rfl, rfl, rfl, rfl, rfl, storeAThenHL_next .ld_at_hli_a (s.hl + 1) s, storeAThenHL_next .ld_at_hld_a (s.hl - 1) s,
    loadAThenHL_next .ld_a_at_hli (s.hl + 1) s, loadAThenHL_next .ld_a_at_hld (s.hl - 1) s⟩

/-- Settles O45: the address is that of `highPage`, which does not wrap. -/
theorem highPageTransfers : Obligations.HighPageTransfers := fun n s =>
  ⟨rfl, rfl, rfl, rfl, highPage n, highPage_toNat n, storeA_next (.ldh_at_n_a n) 2 (highPage n) s,
    loadA_next (.ldh_a_at_n n) 2 (highPage n) s⟩

/-- Settles O46: in flat RAM the load answers the byte that memory holds at its own address, the opcode. -/
theorem absoluteTransfers : Obligations.AbsoluteTransfers := by
  intro nn s
  have hload : exec (.ld_a_at_nn nn) s =
      .next (State.past { (readByte s nn).2 with a := (readByte s nn).1 } (.ld_a_at_nn nn) 3) :=
    loadA_next (.ld_a_at_nn nn) 3 nn s
  refine ⟨rfl, rfl, rfl, rfl, storeA_next (.ld_at_nn_a nn) 3 nn s, hload, ?_⟩
  rintro hm hop rfl
  exact ⟨_, hload, (busAnswer_flatRam s s.pc hm).trans hop⟩

end Sys2Proof.Machine

/-! ### Proofs: CPU control -/

namespace Sys2Proof.Machine

/-! The next state of each CPU control instruction (spec/45_cpu_control.md R230 to R232). -/

theorem exec_nop_next (s : State) : exec .nop s = .next (s.past .nop 1) := advance_opcode .nop 1 s

theorem exec_di_next (s : State) : exec .di s = .next (State.past { s with ime := false } .di 1) :=
  advance_opcode .di 1 { s with ime := false }

theorem exec_ei_next (s : State) : exec .ei s = .next (State.past { s with ime := true } .ei 1) :=
  advance_opcode .ei 1 { s with ime := true }

/-! The run through zeroed memory (R230). -/

/-- An instruction without an operand is fetched by the read of its opcode alone (20_memory.md R57). -/
theorem fetchInstr_of_alone {s : State} {i : Instr} (h : slotOf s.params (busAnswer s s.pc) = .alone i) :
    fetchInstr s = (i, s.record (.readByte s.pc (busAnswer s s.pc))) := by
  rw [fetchInstr_eq, h]

/-- The state runs in flat RAM filled with 0x00, where every opcode it can fetch is that of NOP. -/
structure InZeroedRam (s : State) : Prop where
  running : s.run = .running
  flags : flagsOk s.f = true
  flatRam : s.params.memModel = .flatRam
  populated : s.params.depopulated.contains 0x00 = false
  zeroed : ∀ a : Word, Memory.read s.mem a.toNat = 0x00

/-- The step reads one opcode byte and goes past NOP. -/
theorem InZeroedRam.step_next {s : State} (h : InZeroedRam s) :
    step s = .next ((s.record (.readByte s.pc (busAnswer s s.pc))).past .nop 1) := by
  have hslot : slotOf s.params (busAnswer s s.pc) = .alone .nop := by
    rw [busAnswer_flatRam s s.pc h.flatRam, h.zeroed]
    exact slotOf_of_populated h.populated
  rw [step_of_running s h.running h.flags, fetchInstr_of_alone hslot, exec_nop_next]

/-- The hypotheses of a run of NOPs say nothing of the pc, the cycle total and the history, which are all that NOP changes. -/
theorem InZeroedRam.record_past {s : State} (h : InZeroedRam s) (x : Access) : InZeroedRam ((s.record x).past .nop 1) where
  running := h.running
  flags := h.flags
  flatRam := h.flatRam
  populated := h.populated
  zeroed := h.zeroed

/-- A run of `n` steps advances the pc by `n` mod 2^16 and changes nothing else but the cycle total and the history. -/
theorem InZeroedRam.runSteps_next (n : Nat) {s : State} (h : InZeroedRam s) :
    ∃ cycles history, runSteps n s = .next { s with
      pc := s.pc + BitVec.ofNat 16 n, cyclesTotal := cycles, history := history } := by
  induction n generalizing s with
  | zero => exact ⟨s.cyclesTotal, s.history, by rw [BitVec.add_zero]; rfl⟩
  | succ n ih =>
    have hpc : s.pc + BitVec.ofNat 16 (n + 1) = s.pc + 1 + BitVec.ofNat 16 n := by
      rw [Nat.add_comm, BitVec.ofNat_add]
      exact (BitVec.add_assoc _ _ _).symm
    obtain ⟨cycles, history, hrun⟩ := ih (h.record_past (.readByte s.pc (busAnswer s s.pc)))
    exact ⟨cycles, history, by rw [runSteps_succ n s _ h.step_next, hrun, hpc]; rfl⟩

/-- Settles O47: the next state of NOP, and the run of NOPs by induction on the number of steps. -/
theorem nopAdvancesOnly : Obligations.NopAdvancesOnly := by
  refine ⟨fun s => ⟨rfl, rfl, exec_nop_next s⟩, fun n s hrun hf hm hpop hzero => ?_⟩
  obtain ⟨cycles, history, h⟩ := InZeroedRam.runSteps_next n ⟨hrun, hf, hm, hpop, hzero⟩
  exact ⟨_, h, rfl, rfl, rfl, rfl, rfl, fun r => by cases r <;> rfl⟩

/-- Settles O48: where IME is already clear, clearing it leaves the state alone. -/
theorem diClearsIme : Obligations.DiClearsIme := by
  refine fun s => ⟨rfl, rfl, exec_di_next s, fun hime => ?_⟩
  have hsame : { s with ime := false } = s := by rw [← hime]
  rw [exec_di_next, hsame]

/-- Settles O49: the next state of EI, and that of DI after it. -/
theorem eiSetsImeAtOnce : Obligations.EiSetsImeAtOnce := fun s =>
  ⟨exec_ei_next s, _, _, exec_ei_next s, rfl, exec_di_next _, rfl⟩

end Sys2Proof.Machine

/-! ### Proofs: the fetch of a step, and faults -/

namespace Sys2Proof

/-! The slot that the bytes of one whole instruction were read by (spec/30_encoding.md R76, R80). -/

section
variable {op : Byte} {i : Instr}

theorem slot_of_decode_alone (h : decode [op] = .ok (i, [])) :
    slot op = .unpopulated ∧ i = .undefined op ∨ slot op = .alone i := by
  cases hslot : slot op with
  | unpopulated =>
    cases (decode_of_unpopulated hslot []).symm.trans h
    exact .inl ⟨rfl, rfl⟩
  | alone j =>
    cases (decode_of_alone hslot []).symm.trans h
    exact .inr rfl
  | withByte f => simp [decode_cons, hslot] at h
  | withWord g => simp [decode_cons, hslot] at h

theorem slot_of_decode_withByte {n : Byte} (h : decode [op, n] = .ok (i, [])) :
    ∃ f, slot op = .withByte f ∧ f n = i := by
  cases hslot : slot op with
  | withByte f =>
    cases (decode_of_withByte hslot n []).symm.trans h
    exact ⟨f, rfl, rfl⟩
  | unpopulated => simp [decode_cons, hslot] at h
  | alone j => simp [decode_cons, hslot] at h
  | withWord g => simp [decode_cons, hslot] at h

theorem slot_of_decode_withWord {nn : Word} (h : decode (opWithWord op nn) = .ok (i, [])) :
    ∃ g, slot op = .withWord g ∧ g nn = i := by
  unfold opWithWord at h
  cases hslot : slot op with
  | withWord g =>
    cases (decode_of_withWord hslot (loByte nn) (hiByte nn) []).symm.trans h
    exact ⟨g, rfl, by rw [wordOf_halves]⟩
  | unpopulated => simp [decode_cons, hslot] at h
  | alone j => simp [decode_cons, hslot] at h
  | withByte f => simp [decode_cons, hslot] at h

/-- The first byte of what was decoded is the instruction's opcode. -/
theorem opcode_of_decode {bs rest : List Byte} (h : decode (op :: bs) = .ok (i, rest)) : i.opcode = op := by
  obtain ⟨-, hbytes, hlen⟩ := decode_spec h
  have hpos := (lengthOf_bounds op).1
  unfold Instr.opcode
  cases henc : encode i with
  | nil =>
    rw [henc] at hlen
    exact absurd hpos (by simp [← hlen])
  | cons op' _ =>
    rw [henc] at hbytes
    exact (List.cons.inj hbytes).1

end

end Sys2Proof

namespace Sys2Proof.Machine

/-! The reads of the fetch, by the slot of the opcode (spec/20_memory.md R57). -/

section
variable {s : State}

theorem fetchInstr_of_unpopulated (h : slotOf s.params (busAnswer s s.pc) = .unpopulated) :
    fetchInstr s = (.undefined (busAnswer s s.pc), (readByte s s.pc).2) := by
  rw [fetchInstr_eq, h]
  rfl

theorem fetchInstr_of_withByte {f : Byte → Instr} (h : slotOf s.params (busAnswer s s.pc) = .withByte f) :
    fetchInstr s =
      (f (readByte (readByte s s.pc).2 (s.pc + 1)).1, (readByte (readByte s s.pc).2 (s.pc + 1)).2) := by
  rw [fetchInstr_eq, h]
  rfl

theorem fetchInstr_state_of_withWord {g : Word → Instr} (h : slotOf s.params (busAnswer s s.pc) = .withWord g) :
    (fetchInstr s).2 = (readWord (readByte s s.pc).2 (s.pc + 1)).2 := by
  rw [fetchInstr_eq, h]
  rfl

/-- In flat RAM the fetch finds the instruction that memory holds at the pc (20_memory.md R55, R67). -/
theorem fetchInstr_of_decode_flatRam {i : Instr} {rest : List Byte} (hm : s.params.memModel = .flatRam)
    (hpop : s.params.depopulated.contains i.opcode = false)
    (h : decode [Memory.read s.mem s.pc.toNat, Memory.read s.mem (s.pc + 1).toNat, Memory.read s.mem (s.pc + 2).toNat] =
      .ok (i, rest)) : (fetchInstr s).1 = i := by
  rw [← busAnswer_flatRam s s.pc hm] at h
  rw [opcode_of_decode h] at hpop
  have hslotOf := slotOf_of_populated hpop
  cases hslot : slot (busAnswer s s.pc) with
  | unpopulated =>
    cases (decode_of_unpopulated hslot _).symm.trans h
    rw [fetchInstr_of_unpopulated (hslotOf.trans hslot)]
  | alone j =>
    cases (decode_of_alone hslot _).symm.trans h
    rw [fetchInstr_of_alone (hslotOf.trans hslot)]
  | withByte f =>
    cases (decode_of_withByte hslot _ _).symm.trans h
    rw [fetchInstr_of_withByte (hslotOf.trans hslot), readByte_value, busAnswer_flatRam (readByte s s.pc).2 _ hm]
    rfl
  | withWord g =>
    cases (decode_of_withWord hslot _ _ _).symm.trans h
    rw [hslot, busAnswer_flatRam s s.pc hm] at hslotOf
    exact fetchInstr_of_withWord_flatRam hm hslotOf

/-- Only an unpopulated slot is fetched as `undefined` (60_exceptions.md R250). -/
theorem fetchInstr_not_undefined (h : slotOf s.params (busAnswer s s.pc) ≠ .unpopulated) :
    (fetchInstr s).1.isUndefined = false := by
  rw [fetchInstr_eq]
  cases hslot : slotOf s.params (busAnswer s s.pc) with
  | unpopulated => exact absurd hslot h
  | alone i =>
    obtain ⟨-, hi, -⟩ := slotOf_spec hslot nofun
    exact hi
  | withByte f =>
    obtain ⟨-, hi, -⟩ := slotOf_spec hslot nofun (readByte (readByte s s.pc).2 (s.pc + 1)).1
    exact hi
  | withWord g =>
    obtain ⟨-, hi, -⟩ := slotOf_spec hslot nofun (readWord (readByte s s.pc).2 (s.pc + 1)).1
    exact hi

end

/-- The opcodes without a handler: those outside S_def and those left out of POPULATED (30_encoding.md R80, R81). -/
theorem slotOf_unpopulated {p : Params} {op : Byte} (h : op ∈ undefinedOpcodes ∨ p.depopulated.contains op = true) :
    slotOf p op = .unpopulated := by
  unfold slotOf
  split
  · rfl
  · next hpop => exact slot_of_mem_undefined op (h.resolve_right hpop)

/-- The state after the step that takes the Undefined Opcode fault: Faulted with the record, the opcode fetch recorded
(60_exceptions.md R250, R253). -/
def State.afterUndefinedOpcode (s : State) : State :=
  { s with
    run := .faulted
    fault := some (.undefinedOpcode s.pc (busAnswer s s.pc))
    history := .readByte s.pc (busAnswer s s.pc) :: s.history }

theorem exec_undefined_next (op : Byte) (s : State) :
    exec (.undefined op) s = .next { s with run := .faulted, fault := some (.undefinedOpcode s.pc op) } := raise_eq _ s

/-- A running step answers a next state: the faulted one at an unpopulated slot, and a running one at every other. -/
theorem step_next_by_slot {s : State} (hr : s.run = .running) (hf : flagsOk s.f = true) :
    ∃ t, step s = .next t ∧
      (slotOf s.params (busAnswer s s.pc) = .unpopulated ∧ t = s.afterUndefinedOpcode ∨
        slotOf s.params (busAnswer s s.pc) ≠ .unpopulated ∧ t.run = .running) := by
  rw [step_of_running s hr hf]
  by_cases hslot : slotOf s.params (busAnswer s s.pc) = .unpopulated
  · rw [fetchInstr_of_unpopulated hslot, exec_undefined_next]
    exact ⟨_, rfl, .inl ⟨hslot, rfl⟩⟩
  · obtain ⟨t, ht, frame⟩ := exec_framed (fetchInstr s).1 (fetchInstr s).2
    obtain ⟨hrun, -⟩ := frame.sequencer (fetchInstr_not_undefined hslot)
    obtain ⟨xs, hfetch⟩ := fetchInstr_state s
    rw [hfetch] at hrun
    exact ⟨t, ht, .inr ⟨hslot, hrun.trans hr⟩⟩

/-- Settles O7, by the slot that each decoding was read by: the fetch makes the reads that the slot asks for. -/
theorem stepRunsDecodedInstruction : Obligations.StepRunsDecodedInstruction := by
  intro s i hr hf hpop
  have hslotOf := slotOf_of_populated hpop
  rw [step_of_running s hr hf]
  refine ⟨fun h => ?_, fun h => ?_, fun h => ?_⟩
  · obtain ⟨hslot, rfl⟩ | hslot := slot_of_decode_alone h
    · rw [fetchInstr_of_unpopulated (hslotOf.trans hslot), readByte_value]
    · rw [fetchInstr_of_alone (hslotOf.trans hslot), readByte_state]
  · obtain ⟨f, hslot, rfl⟩ := slot_of_decode_withByte h
    rw [fetchInstr_of_withByte (hslotOf.trans hslot)]
  · obtain ⟨g, hslot, rfl⟩ := slot_of_decode_withWord h
    rw [fetchInstr_of_withWord (hslotOf.trans hslot), fetchInstr_state_of_withWord (hslotOf.trans hslot), readWord_value,
      readByte_state]

/-- Settles O8: the fetch finds the instruction that the bytes decode to, and its accesses follow from the length. -/
theorem stepRunsBytesInFlatRam : Obligations.StepRunsBytesInFlatRam := by
  intro s i rest hr hf hm hpop h
  rw [step_of_running s hr hf, fetchInstr_accesses, fetchInstr_of_decode_flatRam hm hpop h]

/-- Settles O9: the opcode's slot is unpopulated, so the step is the one that faults. -/
theorem undefinedOpcodeFaults : Obligations.UndefinedOpcodeFaults := by
  intro s hr hf hop
  obtain ⟨t, ht, ⟨-, rfl⟩ | ⟨hslot, -⟩⟩ := step_next_by_slot hr hf
  · exact ht
  · exact absurd (slotOf_unpopulated hop) hslot

/-- Settles O12: every instruction answers within its frame, and a step by the slot of its opcode. -/
theorem runningStepAlwaysAnswersNext : Obligations.RunningStepAlwaysAnswersNext := by
  refine ⟨fun i s => (exec_framed i s).imp fun _ h => h.1, fun s hr hf => ?_⟩
  obtain ⟨t, ht, ⟨-, rfl⟩ | ⟨-, hrun⟩⟩ := step_next_by_slot hr hf
  · exact ⟨_, ht, .inr rfl⟩
  · exact ⟨t, ht, .inl hrun⟩

/-- Settles O13: a step that answers Faulted met an unpopulated slot, since every other leaves the sequencer running. -/
theorem faultsArePrecise : Obligations.FaultsArePrecise := by
  intro s t h hfaulted
  obtain ⟨hr, hf, -⟩ := step_cases s t h
  obtain ⟨u, hu, hcases⟩ := step_next_by_slot hr hf
  cases hu.symm.trans h
  obtain ⟨-, rfl⟩ | ⟨-, hrun⟩ := hcases
  · rfl
  · exact absurd (hrun.symm.trans hfaulted) nofun

/-- Settles O10: the fault is taken by `raise`; the cause codes are the table's. -/
theorem undefinedInstructionTakesFault : Obligations.UndefinedInstructionTakesFault := fun op s _ =>
  ⟨exec_undefined_next op s, rfl, rfl⟩

/-- Settles O11: both look at the sequencer first. -/
theorem faultedIsTerminal : Obligations.FaultedIsTerminal := fun s x hs =>
  ⟨by simp [step, hs], by simp [boundary, hs]⟩

/-! ### Proofs: the boundary actions and the dump -/

/-- The state with the action's own register set to the value given (60_exceptions.md R261, R262). -/
def BoundaryAction.write : BoundaryAction → State → State
  | .setIME v, s => { s with ime := v }
  | .setIE v, s => { s with ie := v }
  | .setIF v, s => { s with ifr := v }

/-- At a boundary of a running state with well-formed flags, an action makes its write. -/
theorem boundary_of_running (x : BoundaryAction) {s : State} (hr : s.run = .running) (hf : flagsOk s.f = true) :
    boundary x s = .next (x.write s) := by
  cases x <;> simp [boundary, hr, hf, BoundaryAction.write]

/-- Settles O58: each action makes its write; the controller's read and the dump show the fields by definition. -/
theorem boundaryActionsWriteOneRegister : Obligations.BoundaryActionsWriteOneRegister :=
  ⟨fun _ v b hr hf => ⟨boundary_of_running (.setIME v) hr hf, boundary_of_running (.setIE b) hr hf,
    boundary_of_running (.setIF b) hr hf, rfl⟩, fun _ => rfl⟩

end Sys2Proof.Machine

/-! ### Proofs: the cycle total -/

namespace Sys2Proof.Machine

@[simp] theorem aluWrite_cyclesTotal (op : AluOp) (b : Byte) (s : State) :
    (aluWrite op b s).cyclesTotal = s.cyclesTotal := by rw [aluWrite_eq]

@[simp] theorem aluWrite_params (op : AluOp) (b : Byte) (s : State) : (aluWrite op b s).params = s.params := by
  rw [aluWrite_eq]

/-- Only JR cc,e reports a cost that is not its opcode's entry of `CYCLES` (spec/43_jumps.md R192). -/
theorem nominalCost_eq_cyclesOf_or_jr (i : Instr) (s : State) :
    nominalCost i s = cyclesOf s.params i.opcode ∨ ∃ cc e, i = Instr.jr cc e := by
  cases i with
  | jr_nz_e e => exact .inr ⟨.nz, e, rfl⟩
  | jr_z_e e => exact .inr ⟨.z, e, rfl⟩
  | jr_nc_e e => exact .inr ⟨.nc, e, rfl⟩
  | jr_c_e e => exact .inr ⟨.c, e, rfl⟩
  | _ => exact .inl rfl

/-- The instruction `i`, begun in `s`, answers a next state whose cycle total accounts `cost` (70_reset_and_hazards.md R289). -/
def Charges (i : Instr) (s : State) (cost : Nat) : Prop :=
  ∃ t, exec i s = .next t ∧ t.cyclesTotal = addCycles s.params s.cyclesTotal cost

/-- An instruction that ends past itself charges its entry of `CYCLES`, where it touched neither the total nor the
parameters before. -/
theorem Charges.past {i : Instr} {s u : State} {len : Nat} (h : exec i s = .next (u.past i len))
    (htotal : u.cyclesTotal = s.cyclesTotal := by simp) (hparams : u.params = s.params := by simp) :
    Charges i s (cyclesOf s.params i.opcode) :=
  ⟨_, h, by rw [← htotal, ← hparams]; rfl⟩

/-- Every instruction but JR cc,e and the unpopulated slot charges its opcode's entry of `CYCLES`. -/
theorem exec_charges_cyclesOf {i : Instr} (s : State) (hi : i.isUndefined = false) (hjr : ∀ cc e, i ≠ Instr.jr cc e) :
    Charges i s (cyclesOf s.params i.opcode) := by
  induction i using Instr.byFamily with
  | ld dst src => exact .past (exec_ld_next dst src s)
  | ldFromHL r => exact .past (exec_ldFromHL_next r s)
  | ldToHL r => exact .past (exec_ldToHL_next r s)
  | ldImm r n => exact .past (exec_ldImm_next r n s)
  | ldPair p nn => exact .past (exec_ldPair_next p nn s)
  | inc r => exact .past (exec_inc_next r s)
  | dec r => exact .past (exec_dec_next r s)
  | incPair p => exact .past (exec_incPair_next p s)
  | decPair p => exact .past (exec_decPair_next p s)
  | alu op r => exact .past (exec_alu_next op r s)
  | aluAtHL op => exact .past (exec_aluAtHL_next op s)
  | aluImm op n => exact .past (exec_aluImm_next op n s)
  | addHL p => exact .past (exec_addHL_next p s)
  | jr cc e => exact absurd rfl (hjr cc e)
  | undefined op => cases hi
  | nop | di | ei | jr_e _ | jp_nn _ => exact ⟨_, rfl, rfl⟩
  | ld_at_hl_n _ | inc_at_hl | dec_at_hl => exact ⟨_, rfl, rfl⟩
  | ld_a_at_bc | ld_a_at_de | ld_a_at_hli | ld_a_at_hld | ldh_a_at_n _ | ld_a_at_nn _ => exact ⟨_, rfl, rfl⟩
  | ld_at_bc_a | ld_at_de_a | ld_at_hli_a | ld_at_hld_a | ldh_at_n_a _ | ld_at_nn_a _ => exact ⟨_, rfl, rfl⟩

/-- Every instruction but the unpopulated slot charges the cost that it reports: JR cc,e that of its outcome, the others
their entry of `CYCLES` (R289). -/
theorem exec_charges_nominalCost {i : Instr} (s : State) (hi : i.isUndefined = false) :
    Charges i s (nominalCost i s) := by
  by_cases hjr : ∃ cc e, i = Instr.jr cc e
  · obtain ⟨cc, e, rfl⟩ := hjr
    rw [nominalCost_jr]
    exact ⟨_, exec_jr_next cc e s, rfl⟩
  · rw [(nominalCost_eq_cyclesOf_or_jr i s).resolve_right hjr]
    exact exec_charges_cyclesOf s hi fun cc e h => hjr ⟨cc, e, h⟩

section
variable {i : Instr} {s t : State}

theorem cyclesTotal_of_exec (hw : s.params.cycleWidth = none) (hi : i.isUndefined = false) (h : exec i s = .next t) :
    t.cyclesTotal = s.cyclesTotal + nominalCost i s + 1 := by
  obtain ⟨u, hu, htotal⟩ := exec_charges_nominalCost s hi
  cases hu.symm.trans h
  rw [htotal, addCycles_unbounded _ _ _ hw]

/-- The unpopulated slot faults and charges nothing (60_exceptions.md R250). -/
theorem faulted_of_exec_undefined (hi : i.isUndefined = true) (h : exec i s = .next t) :
    t.run = .faulted ∧ t.cyclesTotal = s.cyclesTotal := by
  obtain ⟨op, rfl⟩ := exists_eq_undefined hi
  cases (exec_undefined_next op s).symm.trans h
  exact ⟨rfl, rfl⟩

/-- What a step does to the total: a faulting one leaves it, and every other adds the cost of the instruction it fetched
plus one. -/
theorem cyclesTotal_of_step (hw : s.params.cycleWidth = none) (h : step s = .next t) :
    (t.run = .faulted ∧ t.cyclesTotal = s.cyclesTotal) ∨
      (t.run = .running ∧ t.cyclesTotal = s.cyclesTotal + nominalCost (fetchInstr s).1 (fetchInstr s).2 + 1) := by
  obtain ⟨hrun, -, hexec⟩ := step_cases s t h
  obtain ⟨xs, hfetch⟩ := fetchInstr_state s
  have hkept : (fetchInstr s).2.run = s.run ∧ (fetchInstr s).2.cyclesTotal = s.cyclesTotal ∧
      (fetchInstr s).2.params = s.params := by
    rw [hfetch]
    exact ⟨rfl, rfl, rfl⟩
  obtain ⟨hrun', htotal, hparams⟩ := hkept
  cases hi : (fetchInstr s).1.isUndefined with
  | true => exact .inl (htotal ▸ faulted_of_exec_undefined hi hexec)
  | false =>
    obtain ⟨hr, -⟩ := (frame_of_exec hexec).sequencer hi
    exact .inr ⟨hr.trans (hrun'.trans hrun), htotal ▸ cyclesTotal_of_exec (hparams ▸ hw) hi hexec⟩

end

/-- A run adds, for each instruction it executed, its cost plus one; it executed one at each step if it ends Running. -/
theorem cyclesTotal_of_runSteps (n : Nat) {s t : State} (hw : s.params.cycleWidth = none) (h : runSteps n s = .next t) :
    t.cyclesTotal = s.cyclesTotal + ((executedCosts n s).map (· + 1)).sum ∧
      (t.run = .running → (executedCosts n s).length = n) := by
  induction n generalizing s with
  | zero =>
    cases h
    exact ⟨rfl, fun _ => rfl⟩
  | succ n ih =>
    obtain ⟨u, hstep, hrest⟩ := runSteps_cases n s t h
    obtain ⟨hu, htotal⟩ | ⟨hu, htotal⟩ := cyclesTotal_of_step hw hstep
    · obtain ⟨-, rfl⟩ := runSteps_of_faulted n u t hu hrest
      rw [executedCosts_faulted n s t hstep hu]
      exact ⟨htotal, fun hr => absurd (hu.symm.trans hr) nofun⟩
    · obtain ⟨hsum, hlen⟩ := ih (params_of_step hstep ▸ hw) hrest
      rw [executedCosts_running n s u hstep hu, List.map_cons, List.sum_cons, List.length_cons]
      exact ⟨by omega, fun hr => congrArg (· + 1) (hlen hr)⟩

/-- Settles O55: the cost that an instruction charges, then what a step and a run do to the total. -/
theorem cycleAccounting : Obligations.CycleAccounting := by
  refine ⟨fun i s t hw h => ?_, nominalCost_jr, fun s t hw h => ?_, fun n s t => cyclesTotal_of_runSteps n⟩
  · cases hi : i.isUndefined with
    | true => exact (faulted_of_exec_undefined hi h).2
    | false => exact cyclesTotal_of_exec hw hi h
  · obtain ⟨hr, htotal⟩ | ⟨hr, htotal⟩ := cyclesTotal_of_step hw h
    · exact ⟨htotal.ge, fun h' => absurd (hr.symm.trans h') nofun, fun h' => absurd (hr.symm.trans h') nofun⟩
    · exact ⟨by omega, fun _ => by omega, fun _ => htotal⟩

end Sys2Proof.Machine
